-- ==== Sys2Proof/Word.lean ====
section
/-! DEFINITION. The words of the block: bytes, one-bit registers and fields, request words, bus addresses.
Bit 0 is the least significant bit and nothing is signed (spec/00_scope.md R10). -/

namespace Sys2Proof

/-- An unsigned byte 0..255 (R10). -/
abbrev Byte := BitVec 8

/-- A one-bit register or field. -/
abbrev Bit := BitVec 1

/-- A 10-bit request word, OP in bits 9..8 and ARG in bits 7..0 (R48, R49). -/
abbrev ReqWord := BitVec 10

/-- A 7-bit I2C target address (R6). -/
abbrev I2cAddr := BitVec 7

/-- The 16-bit status word (R28). -/
abbrev StatusWord := BitVec 16

end Sys2Proof
end

