-- ==== Sys2Proof/Config.lean ====
section
/-! DEFINITION. What an implementation fixes (spec/00_scope.md R7, R9) and the free values.
The pin map's default and the masks are in Machine/Codec.lean, the timing minima too. -/

namespace Sys2Proof.Config

/-- One of the three expander bits 3..1, which EN and the backlight share out among them (R7). -/
inductive Line where
  | bit1
  | bit2
  | bit3
deriving DecidableEq, Repr

/-- The expander bits of `EN_MASK` and `BL_MASK`, the parameter P2 (R7).
Each is a single bit among bits 3..1 by its type. That they differ is `PinMap.wf`. -/
structure PinMap where
  en : Line
  bl : Line
deriving DecidableEq, Repr

/-- R7: `EN_MASK` and `BL_MASK` differ. -/
def PinMap.wf (m : PinMap) : Bool := m.en != m.bl

/-- The value `REQ` holds where the spec calls it unspecified (R27, U4): one free value for each time it becomes
unspecified, numbered by `State.freeCount`. It has no body, so that no proof can see a value (log entry 7). -/
opaque freeReq : Nat → ReqWord

/-- How far the clock lies above 1 MHz, in Hz (R9, P1). It has no body and nothing reads it (log entry 19). -/
opaque clkHzAboveMinimum : Nat

/-- R9: `CLK_HZ`, the open parameter, at least 1 MHz. -/
def clkHz : Nat := 1000000 + clkHzAboveMinimum

end Sys2Proof.Config
end

