-- ==== Sys2Proof/Syntax.lean ====
section
/-! DEFINITION. The instructions: the request words of spec/opcode_table.json, one constructor a row.
An operand is a field of the row's pattern, at the field's own width (spec/30_encoding.md R50, R55). -/

namespace Sys2Proof

/-- A request word, decoded. -/
inductive Instr where
  /-- CMD CLEAR, `00 0000 0001` (R91). -/
  | cmdClear
  /-- CMD HOME, `00 0000 001x`, `x` don't-care and sent as given (R92, R57). -/
  | cmdHome (x : Bit)
  /-- CMD ENTRY_MODE_SET, `00 0000 01is` (R93). -/
  | cmdEntryModeSet (i s : Bit)
  /-- CMD DISPLAY_CONTROL, `00 0000 1dcb` (R94). -/
  | cmdDisplayControl (d c b : Bit)
  /-- CMD CURSOR_SHIFT, `00 0001 crxx`, `x` don't-care and sent as given (R95, R57). -/
  | cmdCursorShift (c r : Bit) (x : BitVec 2)
  /-- CMD FUNCTION_SET with DL = 0, `00 0010 nfxx`, `x` don't-care and sent as given (R96, R57). -/
  | cmdFunctionSet (n f : Bit) (x : BitVec 2)
  /-- CMD SET_CGRAM_ADDR, `00 01aa aaaa` (R97). -/
  | cmdSetCgramAddr (a : BitVec 6)
  /-- CMD SET_DDRAM_ADDR, `00 1aaa aaaa` (R98). -/
  | cmdSetDdramAddr (a : BitVec 7)
  /-- DATA, `01 dddd dddd` (R85). -/
  | data (d : Byte)
  /-- SETBL, `10 0000 000b` (R86). -/
  | setbl (b : Bit)
  /-- The illegal word `00 0000 0000` (R56, R88). -/
  | illegalCmdZero
  /-- The illegal words `00 0011 xxxx`: FUNCTION_SET with DL = 1 (R56, R88, R96). -/
  | illegalFunctionSetDl1 (x : BitVec 4)
  /-- The illegal words `10 pppp ppp-` with `p` not 0: SETBL with ARG[7:1] not 0 (R56, R88). -/
  | illegalSetbl (p : BitVec 7) (low : Bit)
  /-- The illegal words `11 xxxx xxxx`: the reserved operation (R87, R88). -/
  | illegalOp (x : Byte)
deriving DecidableEq, Repr

end Sys2Proof
end

