-- ==== Sys2Proof/WellFormed.lean ====
section
/-! DEFINITION. Which instruction terms stand for a request word.
Every field has its width in its type, so the one check left is the row ILLEGAL SETBL, whose field `p` is any value
except 0 (spec/opcode_table.json; spec/30_encoding.md R55, R56). -/

namespace Sys2Proof

/-- The instruction is one that a request word stands for. Each constructor is named, so that a new one cannot slip
past. -/
def Instr.wf : Instr → Bool
  | .cmdClear => true
  | .cmdHome _ => true
  | .cmdEntryModeSet _ _ => true
  | .cmdDisplayControl _ _ _ => true
  | .cmdCursorShift _ _ _ => true
  | .cmdFunctionSet _ _ _ => true
  | .cmdSetCgramAddr _ => true
  | .cmdSetDdramAddr _ => true
  | .data _ => true
  | .setbl _ => true
  | .illegalCmdZero => true
  | .illegalFunctionSetDl1 _ => true
  | .illegalSetbl p _ => p != 0
  | .illegalOp _ => true

end Sys2Proof
end

