-- ==== Sys2Proof/Decode.lean ====
section
/-! DEFINITION. Decoding a request word (spec/30_encoding.md R49 to R57), the opcode table as data (R55), and the
encoder after it. -/

namespace Sys2Proof

/-- R49: the operation, bits 9..8. -/
def opOf (w : ReqWord) : BitVec 2 := w.extractLsb' 8 2

/-- R49: the argument, bits 7..0. -/
def argOf (w : ReqWord) : Byte := w.extractLsb' 0 8

/-- R49: the request word `{OP, ARG}`. -/
def reqWord (op : BitVec 2) (arg : Byte) : ReqWord := op ++ arg

/-- R50: the classes of a command byte, with `none` for the all-zero byte. -/
inductive CmdClass where
  | clear
  | home
  | entryModeSet
  | displayControl
  | cursorShift
  | functionSet
  | setCgramAddr
  | setDdramAddr
  | none
deriving DecidableEq, Repr

/-- R51: the class of a command byte is given by its most significant 1 bit. -/
def cls (v : Byte) : CmdClass :=
  if v.extractLsb' 7 1 = 1 then .setDdramAddr
  else if v.extractLsb' 6 1 = 1 then .setCgramAddr
  else if v.extractLsb' 5 1 = 1 then .functionSet
  else if v.extractLsb' 4 1 = 1 then .cursorShift
  else if v.extractLsb' 3 1 = 1 then .displayControl
  else if v.extractLsb' 2 1 = 1 then .entryModeSet
  else if v.extractLsb' 1 1 = 1 then .home
  else if v.extractLsb' 0 1 = 1 then .clear
  else .none

/-- R56: the illegal request words, written from that rule's own list. -/
def illegal (w : ReqWord) : Bool :=
  opOf w == 0b11
    || (opOf w == 0b10 && (argOf w).extractLsb' 1 7 != 0)
    || (opOf w == 0b00 && argOf w == 0x00)
    || (opOf w == 0b00 && (argOf w).extractLsb' 4 4 == 0b0011)

/-- R50, R56: the command byte `v` of a CMD request. -/
def decodeCmd (v : Byte) : Instr :=
  match cls v with
  | .clear => .cmdClear
  | .home => .cmdHome (v.extractLsb' 0 1)
  | .entryModeSet => .cmdEntryModeSet (v.extractLsb' 1 1) (v.extractLsb' 0 1)
  | .displayControl => .cmdDisplayControl (v.extractLsb' 2 1) (v.extractLsb' 1 1) (v.extractLsb' 0 1)
  | .cursorShift => .cmdCursorShift (v.extractLsb' 3 1) (v.extractLsb' 2 1) (v.extractLsb' 0 2)
  | .functionSet =>
    if v.extractLsb' 4 1 = 1 then .illegalFunctionSetDl1 (v.extractLsb' 0 4)
    else .cmdFunctionSet (v.extractLsb' 3 1) (v.extractLsb' 2 1) (v.extractLsb' 0 2)
  | .setCgramAddr => .cmdSetCgramAddr (v.extractLsb' 0 6)
  | .setDdramAddr => .cmdSetDdramAddr (v.extractLsb' 0 7)
  | .none => .illegalCmdZero

/-- R49, R55: the request decode. Every one of the 1024 words stands for one instruction, legal or illegal. -/
def decode (w : ReqWord) : Instr :=
  if opOf w = 0b00 then decodeCmd (argOf w)
  else if opOf w = 0b01 then .data (argOf w)
  else if opOf w = 0b10 then
    if (argOf w).extractLsb' 1 7 = 0 then .setbl ((argOf w).extractLsb' 0 1)
    else .illegalSetbl ((argOf w).extractLsb' 1 7) ((argOf w).extractLsb' 0 1)
  else .illegalOp (argOf w)

/-- Why a list of bytes is no request word. The request port is 10 wires (R32), so a byte form is the model's own
convention: two bytes, the low one first (log entry 11). -/
inductive DecodeReject where
  /-- Fewer than two bytes. Raised by `decodeBytes`. Safe: no instruction is made up. -/
  | truncated
  /-- A bit above bit 9 is set, which the 10-bit port has no wire for. Raised by `decodeBytes`. Safe. -/
  | widerThanPort
deriving DecidableEq, Repr

/-- Total on any bytes: the request word in the first two bytes, low byte first, and the bytes after it. -/
def decodeBytes : List Byte → Except DecodeReject (Instr × List Byte)
  | low :: high :: rest =>
    if high.extractLsb' 2 6 = 0 then .ok (decode (high.extractLsb' 0 2 ++ low), rest)
    else .error .widerThanPort
  | [_] => .error .truncated
  | [] => .error .truncated

/-- The instruction the decoder reads from a word of the opcode table of `nbits` bits, laid out as `decodeBytes` reads
it. `none` where a set bit lies above the 10-bit port. -/
def decodeTableWord (nbits w : Nat) : Option Instr :=
  let v := w % 2 ^ nbits
  if v < 65536 then
    match decodeBytes [BitVec.ofNat 8 v, BitVec.ofNat 8 (v / 256)] with
    | .ok (i, _) => some i
    | .error _ => none
  else none

/-- A row of the opcode table of R55: the words it matches are those with `w &&& mask = value`, and where `argHigh` is
set only those with ARG[7:1] not 0 (the row ILLEGAL SETBL). -/
structure TableRow where
  mnemonic : String
  value : ReqWord
  mask : ReqWord
  argHigh : Bool
deriving DecidableEq, Repr

/-- R55: does the row match the word? -/
def TableRow.matchesWord (r : TableRow) (w : ReqWord) : Bool :=
  w &&& r.mask == r.value && (!r.argHigh || w.extractLsb' 1 7 != 0)

/-- R55, spec/opcode_table.json: the ten legal rows, then the four illegal rows, in the table's order. -/
def opcodeTable : List TableRow :=
  [ ⟨"CMD_CLEAR", 0x001, 0x3FF, false⟩,
    ⟨"CMD_HOME", 0x002, 0x3FE, false⟩,
    ⟨"CMD_ENTRY_MODE_SET", 0x004, 0x3FC, false⟩,
    ⟨"CMD_DISPLAY_CONTROL", 0x008, 0x3F8, false⟩,
    ⟨"CMD_CURSOR_SHIFT", 0x010, 0x3F0, false⟩,
    ⟨"CMD_FUNCTION_SET", 0x020, 0x3F0, false⟩,
    ⟨"CMD_SET_CGRAM_ADDR", 0x040, 0x3C0, false⟩,
    ⟨"CMD_SET_DDRAM_ADDR", 0x080, 0x380, false⟩,
    ⟨"DATA", 0x100, 0x300, false⟩,
    ⟨"SETBL", 0x200, 0x3FE, false⟩ ] ++
  [ ⟨"ILLEGAL_CMD_0x00", 0x000, 0x3FF, false⟩,
    ⟨"ILLEGAL_FUNCTION_SET_DL_1", 0x030, 0x3F0, false⟩,
    ⟨"ILLEGAL_SETBL_ARG_7_1___0", 0x200, 0x300, true⟩,
    ⟨"ILLEGAL_OP_0b11", 0x300, 0x300, false⟩ ]

/-- The row of the opcode table an instruction belongs to, by its mnemonic there. -/
def Instr.mnemonic : Instr → String
  | .cmdClear => "CMD_CLEAR"
  | .cmdHome _ => "CMD_HOME"
  | .cmdEntryModeSet _ _ => "CMD_ENTRY_MODE_SET"
  | .cmdDisplayControl _ _ _ => "CMD_DISPLAY_CONTROL"
  | .cmdCursorShift _ _ _ => "CMD_CURSOR_SHIFT"
  | .cmdFunctionSet _ _ _ => "CMD_FUNCTION_SET"
  | .cmdSetCgramAddr _ => "CMD_SET_CGRAM_ADDR"
  | .cmdSetDdramAddr _ => "CMD_SET_DDRAM_ADDR"
  | .data _ => "DATA"
  | .setbl _ => "SETBL"
  | .illegalCmdZero => "ILLEGAL_CMD_0x00"
  | .illegalFunctionSetDl1 _ => "ILLEGAL_FUNCTION_SET_DL_1"
  | .illegalSetbl _ _ => "ILLEGAL_SETBL_ARG_7_1___0"
  | .illegalOp _ => "ILLEGAL_OP_0b11"

/-- R55, the column of patterns: the word of an instruction, its fixed bits and its fields set side by side. -/
def encode : Instr → ReqWord
  | .cmdClear => 0b0000000001#10
  | .cmdHome x => 0b000000001#9 ++ x
  | .cmdEntryModeSet i s => 0b00000001#8 ++ (i ++ s)
  | .cmdDisplayControl d c b => 0b0000001#7 ++ (d ++ (c ++ b))
  | .cmdCursorShift c r x => 0b000001#6 ++ (c ++ (r ++ x))
  | .cmdFunctionSet n f x => 0b000010#6 ++ (n ++ (f ++ x))
  | .cmdSetCgramAddr a => 0b0001#4 ++ a
  | .cmdSetDdramAddr a => 0b001#3 ++ a
  | .data d => 0b01#2 ++ d
  | .setbl b => 0b100000000#9 ++ b
  | .illegalCmdZero => 0b0000000000#10
  | .illegalFunctionSetDl1 x => 0b000011#6 ++ x
  | .illegalSetbl p low => 0b10#2 ++ (p ++ low)
  | .illegalOp x => 0b11#2 ++ x

end Sys2Proof
end

