-- ==== Sys2Proof/Machine/Operands.lean ====
section
/-! DEFINITION. Operand assembly (spec/30_encoding.md R50, R52, R54): the nibble bytes of a byte, the command byte of
each class from its fields, and the fields the block reads from a command byte. -/

namespace Sys2Proof.Machine

/-- R52: the nibble byte of the high half, `v[7:4]` on bits 7..4 and the mode on bit 0. -/
def hi (v : Byte) (m : Bit) : Byte := (v &&& 0xF0) ||| m.setWidth 8

/-- R52: the nibble byte of the low half, `v[3:0]` on bits 7..4 and the mode on bit 0. -/
def lo (v : Byte) (m : Bit) : Byte := ((v <<< 4) &&& 0xF0) ||| m.setWidth 8

/-- R50: the command byte of CLEAR. -/
def clearByte : Byte := 0b00000001

/-- R50: the command byte of HOME, its don't-care bit as given. -/
def homeByte (x : Bit) : Byte := 0b0000001#7 ++ x

/-- R50: the command byte of ENTRY_MODE_SET. -/
def entryModeByte (i s : Bit) : Byte := 0b000001#6 ++ (i ++ s)

/-- R50: the command byte of DISPLAY_CONTROL. -/
def displayControlByte (d c b : Bit) : Byte := 0b00001#5 ++ (d ++ (c ++ b))

/-- R50: the command byte of CURSOR_SHIFT, its don't-care bits as given. -/
def cursorShiftByte (c r : Bit) (x : BitVec 2) : Byte := 0b0001#4 ++ (c ++ (r ++ x))

/-- R50: the command byte of FUNCTION_SET, its don't-care bits as given. -/
def functionSetByte (dl n f : Bit) (x : BitVec 2) : Byte := 0b001#3 ++ (dl ++ (n ++ (f ++ x)))

/-- R50: the command byte of SET_CGRAM_ADDR. -/
def setCgramByte (a : BitVec 6) : Byte := 0b01#2 ++ a

/-- R50: the command byte of SET_DDRAM_ADDR. -/
def setDdramByte (a : BitVec 7) : Byte := 0b1#1 ++ a

/-- R54: the field of ENTRY_MODE_SET, `ARG[1:0]`, which `EMODE` takes. -/
def entryModeField (v : Byte) : BitVec 2 := v.extractLsb' 0 2

/-- R54: the field of DISPLAY_CONTROL, `ARG[2:0]`, which `DCTL` takes. -/
def displayControlField (v : Byte) : BitVec 3 := v.extractLsb' 0 3

/-- R54: the field of FUNCTION_SET, `ARG[4:2]`, which `FUNC` takes. -/
def functionSetField (v : Byte) : BitVec 3 := v.extractLsb' 2 3

/-- R19: the line bit of a row count, `CFG_N` is 1 for two rows or more. -/
def lineBit (rows : BitVec 8) : Bit := if 2 ≤ rows.toNat then 1 else 0

end Sys2Proof.Machine
end

