-- ==== Sys2Proof/Machine/Codec.lean ====
section
/-! DEFINITION. The nibble packer and the enable pulse (spec/40_codec.md R73 to R77), the list of a CMD request (R84)
and the initialization list (spec/43_init.md R100 to R109), each as a list of actions (spec/00_scope.md R13). -/

namespace Sys2Proof.Machine

open Sys2Proof.Config

/-- R13: an action is a bus write `W b` or a wait `T t` of at least `t` microseconds. -/
inductive Action where
  | write (b : Byte)
  | wait (t : Nat)
deriving DecidableEq, Repr

/-- R7: the mask of an expander bit. -/
def lineMask : Line → Byte
  | .bit1 => 0x02
  | .bit2 => 0x04
  | .bit3 => 0x08

/-- R7: the default pin map, `EN_MASK = 0x04` and `BL_MASK = 0x08`. -/
def defaultPinMap : PinMap := ⟨.bit2, .bit3⟩

/-- R7: `EN_MASK`. -/
def enMask (pm : PinMap) : Byte := lineMask pm.en

/-- R7: `BL_MASK`. -/
def blMask (pm : PinMap) : Byte := lineMask pm.bl

/-- R8: the enable line is held high at least this long, in microseconds (as all minima here). -/
def tEnHigh : Nat := 1
/-- R8: the settle time after the enable line falls. -/
def tSettle : Nat := 50
/-- R8: the power-on wait of init step 1. -/
def tPowerOn : Nat := 20000
/-- R8: the wait after each of the first two reset nibbles, init step 2. -/
def tReset1 : Nat := 5000
/-- R8: the wait of init step 3. -/
def tReset3 : Nat := 1000
/-- R8: the wait of init step 4. -/
def t4Bit : Nat := 1000
/-- R8: the wait after a clear or return-home command. -/
def tLong : Nat := 2000

/-- R73: the backlight term `BLm`. -/
def blTerm (pm : PinMap) (bl : Bit) : Byte := if bl = 1 then blMask pm else 0x00

/-- R74: `expanderWrite(raw)`. -/
def expanderWrite (pm : PinMap) (bl : Bit) (raw : Byte) : List Action :=
  [.write (raw ||| blTerm pm bl)]

/-- R75: `pulseEnable(raw)`. -/
def pulseEnable (pm : PinMap) (bl : Bit) (raw : Byte) : List Action :=
  [.write ((raw ||| enMask pm) ||| blTerm pm bl), .wait tEnHigh,
   .write ((raw &&& ~~~(enMask pm)) ||| blTerm pm bl), .wait tSettle]

/-- R76: `writeNibble(n)`, one nibble transfer. -/
def writeNibble (pm : PinMap) (bl : Bit) (n : Byte) : List Action :=
  expanderWrite pm bl n ++ pulseEnable pm bl n

/-- R77: `send(v, m)`, one byte, high nibble first. -/
def send (pm : PinMap) (bl : Bit) (v : Byte) (m : Bit) : List Action :=
  writeNibble pm bl (hi v m) ++ writeNibble pm bl (lo v m)

/-- R84: the list of a CMD request, with the long wait for the classes CLEAR and HOME. -/
def cmdList (pm : PinMap) (bl : Bit) (v : Byte) : List Action :=
  send pm bl v 0 ++ (if cls v = .clear ∨ cls v = .home then [.wait tLong] else [])

/-- R101, R102: the function-reset nibble. -/
def functionResetNibble : Byte := 0x30

/-- R103: the nibble that switches to 4-bit mode. -/
def fourBitNibble : Byte := 0x20

/-- R100, init step 1: the power-on wait. -/
def initStep1 (pm : PinMap) (bl : Bit) : List Action :=
  expanderWrite pm bl 0x00 ++ [.wait tPowerOn]

/-- R101, init step 2: the first two function-reset nibbles. -/
def initStep2 (pm : PinMap) (bl : Bit) : List Action :=
  writeNibble pm bl functionResetNibble ++ [.wait tReset1] ++ writeNibble pm bl functionResetNibble ++ [.wait tReset1]

/-- R102, init step 3: the third function-reset nibble. -/
def initStep3 (pm : PinMap) (bl : Bit) : List Action :=
  writeNibble pm bl functionResetNibble ++ [.wait tReset3]

/-- R103, init step 4: the switch to 4-bit mode. -/
def initStep4 (pm : PinMap) (bl : Bit) : List Action :=
  writeNibble pm bl fourBitNibble ++ [.wait t4Bit]

/-- R104: the function-set byte of init step 5, `0x20 | (CFG_N << 3) | (CFG_F << 2)`. -/
def initFunctionSetByte (n f : Bit) : Byte := 0x20 ||| (n.setWidth 8 <<< 3) ||| (f.setWidth 8 <<< 2)

/-- R104, init step 5: function set. -/
def initStep5 (pm : PinMap) (bl n f : Bit) : List Action := send pm bl (initFunctionSetByte n f) 0

/-- R105, init step 6: display on, cursor off, blink off. -/
def initStep6 (pm : PinMap) (bl : Bit) : List Action := send pm bl 0x0C 0

/-- R106, init step 7: clear. -/
def initStep7 (pm : PinMap) (bl : Bit) : List Action := send pm bl 0x01 0 ++ [.wait tLong]

/-- R107, init step 8: entry mode left-to-right, no shift. -/
def initStep8 (pm : PinMap) (bl : Bit) : List Action := send pm bl 0x06 0

/-- R109: the initialization list, the eight steps one after the other. -/
def initList (pm : PinMap) (bl n f : Bit) : List Action :=
  initStep1 pm bl ++ initStep2 pm bl ++ initStep3 pm bl ++ initStep4 pm bl ++ initStep5 pm bl n f ++
    initStep6 pm bl ++ initStep7 pm bl ++ initStep8 pm bl

end Sys2Proof.Machine
end

