-- ==== Sys2Proof/Machine/ResetValues.lean ====
section
/-! DEFINITION. The value of each register at reset (spec/10_state.md R31), where a repair may mend one.
`REQ` and the configuration of `State.reset` are the model's choice (log entries 5 and 7). -/

namespace Sys2Proof.Machine

/-- R31: `BL` is 1 at reset. -/
def resetBl : Bit := 1

/-- R31: `FUNC` at reset. -/
def resetFunc : BitVec 3 := 0b000

/-- R31: `DCTL` at reset. -/
def resetDctl : BitVec 3 := 0b000

/-- R31: `EMODE` at reset. -/
def resetEmode : BitVec 2 := 0b00

/-- R31: `TMR` at reset. -/
def resetTmr : BitVec 16 := 0

/-- R31 calls `REQ` unspecified at reset: DESIGN CHOICE 0 (log entry 7). -/
def resetReq : ReqWord := 0

/-- The I2C address of `State.reset`: DESIGN CHOICE 0x27, the configuration of spec/95_test_vectors.md (log entry 5). -/
def conventionAddr : I2cAddr := 0x27

/-- The row count of `State.reset`: DESIGN CHOICE 4 (log entry 5). -/
def conventionRows : BitVec 8 := 4

/-- The font bit of `State.reset`: DESIGN CHOICE 0, 5x8 dots (log entry 5). -/
def conventionFont : Bit := 0

end Sys2Proof.Machine
end

