-- ==== Sys2Proof/Machine/State.lean ====
section
/-! DEFINITION. The state of the block (spec/10_state.md R14), of its pins (spec/20_memory.md R32) and of the outside
world that drives them (spec/60_exceptions.md R128); the reasons a step can stop; the state after reset (R31). -/

namespace Sys2Proof.Machine

open Sys2Proof.Config

/-- R25: the sequencer state `ST`. -/
inductive SeqState where
  | init
  | ready
  | exec
  | fault
deriving DecidableEq, Repr

/-- R113: the response codes. -/
inductive RespCode where
  | ok
  | errTransport
  | errIllegal
  | errFault
deriving DecidableEq, Repr

/-- R35: the bus adapter's answer to a write. -/
inductive BusAnswer where
  | ok
  | err
deriving DecidableEq, Repr

/-- R72: what the block emits. -/
inductive Event where
  /-- `W b`: a bus write of the byte to the address, with the adapter's answer. -/
  | write (addr : I2cAddr) (b : Byte) (answer : BusAnswer)
  /-- `T t`: a wait of at least `t` microseconds, completed. -/
  | wait (t : Nat)
  /-- `Resp c`: a response. -/
  | resp (c : RespCode)
  /-- R129: the write that stood on the bus port, unanswered, when reset was asserted. Whether it was taken is
  unknown, and its answer is ignored (log entry 9). -/
  | abandoned (addr : I2cAddr) (b : Byte)
deriving DecidableEq, Repr

/-- R128: what the outside world can do to the block's pins. -/
inductive Input where
  /-- `rst` rises (R129). -/
  | assertReset
  /-- `rst` falls (R130). -/
  | releaseReset
  /-- The configuration pins take new levels (R6, R46). -/
  | setConfig (addr : I2cAddr) (rows : BitVec 8) (font : Bit)
  /-- The host has a further request word to present, after those it has (R81). -/
  | request (w : ReqWord)
  /-- The adapter has a further answer to give, after those it has (R35). -/
  | answer (a : BusAnswer)
deriving DecidableEq, Repr

/-- The reasons for which the machine stops with a fault: there is none.
Every error of the block is a response code (R113) and the machine goes on, so no constructor stands here, and no
step faults (log entry 20). Safe: nothing stops where the block goes on. -/
inductive Fault where
deriving DecidableEq, Repr

/-- The reasons for which a step has no meaning. -/
inductive Refusal where
  /-- An instruction that has no meaning yet. No arm raises it: every instruction has its meaning. Safe. -/
  | notModelled (mnemonic : String)
  /-- Reset was released with `CFG_ROWS = 0`, which is outside the domain, and a model refuses it (R6, D21, U6).
  Raised by `applyInput`. Safe: the run stops where the spec says nothing (log entry 14). -/
  | cfgRowsZero
deriving DecidableEq, Repr

/-- The block, its pins and the outside world. -/
structure State where
  /-- R7, P2: `EN_MASK` and `BL_MASK`, fixed by the wiring: no step changes it (log entry 6). -/
  pinMap : PinMap
  /-- R18: `CFG_ADDR`. -/
  cfgAddr : I2cAddr
  /-- R19: `CFG_N`. -/
  cfgN : Bit
  /-- R19: `CFG_F`. -/
  cfgF : Bit
  /-- R20: `BL`. -/
  bl : Bit
  /-- R22: `FUNC`, the bits DL, N, F. -/
  func : BitVec 3
  /-- R23: `DCTL`, the bits D, C, B. -/
  dctl : BitVec 3
  /-- R24: `EMODE`, the bits ID, S. -/
  emode : BitVec 2
  /-- R25: `ST`. -/
  st : SeqState
  /-- R16: `ACT`, the action list being run. -/
  act : List Action
  /-- R16: `AIX`, the index of the next action of `act`. -/
  aix : Nat
  /-- R26: `TMR`. -/
  tmr : BitVec 16
  /-- R27: `REQ`. -/
  req : ReqWord
  /-- R28: `LAST_RESP`. -/
  lastResp : RespCode
  /-- R32: `rsp_valid` and `rsp_code`, the code while the pulse is out. -/
  rsp : Option RespCode
  /-- R32: the pin `rst`. -/
  rst : Bool
  /-- R32: the pins `cfg_addr`. -/
  cfgAddrPin : I2cAddr
  /-- R32: the pins `cfg_rows`. -/
  cfgRowsPin : BitVec 8
  /-- R32: the pin `cfg_font`. -/
  cfgFontPin : Bit
  /-- R81, R128: the words the host presents, the one on the request port first (log entry 3). -/
  hostQueue : List ReqWord
  /-- R35, P4: the answers the adapter will give, the next one first (log entry 2). -/
  answers : List BusAnswer
  /-- R128: the coming pin events, each after its number of block steps (log entry 4). -/
  inputs : List (Nat × Input)
  /-- R72: the observation, oldest event first; the model's own field (log entry 23). -/
  events : List Event
  /-- How many free values have been drawn for `req`; the model's own field (log entry 7). -/
  freeCount : Nat
deriving DecidableEq, Repr

/-- R130, R31: the machine right after the release of reset with the configuration on the pins, before any request,
answer or pin event is on its way. A configuration with `CFG_ROWS = 0` is outside the domain (R6), so that the state
takes a proof that there is a row: there is no reset with none (D21, U6). -/
def State.resetWith (pm : PinMap) (addr : I2cAddr) (rows : BitVec 8) (font : Bit) (_ : rows ≠ 0) : State :=
  { pinMap := pm, cfgAddr := addr, cfgN := lineBit rows, cfgF := font,
    bl := resetBl, func := resetFunc, dctl := resetDctl, emode := resetEmode,
    st := .init, act := initList pm resetBl (lineBit rows) font, aix := 0, tmr := resetTmr,
    req := resetReq, lastResp := .ok, rsp := none,
    rst := false, cfgAddrPin := addr, cfgRowsPin := rows, cfgFontPin := font,
    hostQueue := [], answers := [], inputs := [], events := [], freeCount := 0 }

/-- The machine right after reset (R31), with the default pin map (R7) and the configuration of
spec/95_test_vectors.md (DESIGN CHOICE, log entry 5). -/
def State.reset : State :=
  State.resetWith defaultPinMap conventionAddr conventionRows conventionFont (by decide)

end Sys2Proof.Machine
end

