-- ==== Sys2Proof/Machine/Flags.lean ====
section
/-! DEFINITION. The status word and its codes (spec/10_state.md R25, R28; spec/60_exceptions.md R113) and the writes of
the shadow registers (spec/41_requests.md R84; spec/43_init.md R108). The block has no arithmetic flags (R17). -/

namespace Sys2Proof.Machine

/-- R25: the value of `ST`. -/
def stCode : SeqState → BitVec 2
  | .init => 0
  | .ready => 1
  | .exec => 2
  | .fault => 3

/-- R113: the value of a response code. -/
def respCodeBits : RespCode → BitVec 2
  | .ok => 0
  | .errTransport => 1
  | .errIllegal => 2
  | .errFault => 3

/-- R28: the status word. -/
def status (s : State) : StatusWord :=
  0#3 ++ (s.func ++ (s.emode ++ (s.dctl ++ (s.bl ++ (respCodeBits s.lastResp ++ stCode s.st)))))

/-- R84: `shadowWrite(v)`. -/
def shadowWrite (v : Byte) (s : State) : State :=
  match cls v with
  | .entryModeSet => { s with emode := entryModeField v }
  | .displayControl => { s with dctl := displayControlField v }
  | .functionSet => { s with func := functionSetField v }
  | .clear => s
  | .home => s
  | .cursorShift => s
  | .setCgramAddr => s
  | .setDdramAddr => s
  | .none => s

/-- R108: the index of the first action of init step 5. -/
def initFuncIndex : Nat := 26
/-- R108: the index of the first action of init step 6. -/
def initDctlIndex : Nat := 36
/-- R108: the index of the first action of init step 8. -/
def initEmodeIndex : Nat := 57

/-- R108: in INIT, the shadow of a step is written when `AIX` reaches the step's first action. -/
def initShadow (s : State) : State :=
  if s.st = .init then
    if s.aix = initFuncIndex then { s with func := 0#1 ++ (s.cfgN ++ s.cfgF) }
    else if s.aix = initDctlIndex then { s with dctl := 0b100 }
    else if s.aix = initEmodeIndex then { s with emode := 0b10 }
    else s
  else s

end Sys2Proof.Machine
end

