-- ==== Sys2Proof/Machine/Ports.lean ====
section
/-! DEFINITION. The outputs of the block that are views of its state (spec/20_memory.md R32, R34).
The status output is `status` in Machine/Flags.lean; `rsp_valid` and `rsp_code` are the field `rsp`. -/

namespace Sys2Proof.Machine

/-- R32: `req_ready` is 1 exactly when `ST` is READY or FAULT and no response is pending. -/
def reqReady (s : State) : Bool :=
  (s.st == .ready || s.st == .fault) && s.rsp == none

/-- R78: a list is being run, in INIT or in EXEC. -/
def running (s : State) : Bool :=
  s.st == .init || s.st == .exec

/-- R32, R34, R129: `bus_valid`, `bus_addr` and `bus_data`: the write the block presents, to `CFG_ADDR`, and none while
reset is asserted. -/
def busOut (s : State) : Option (I2cAddr × Byte) :=
  if s.rst || !running s then none
  else
    match s.act[s.aix]? with
    | some (.write b) => some (s.cfgAddr, b)
    | some (.wait _) => none
    | none => none

end Sys2Proof.Machine
end

