-- ==== Sys2Proof/Machine/Ops.lean ====
section
/-! DEFINITION. The shared operations: acceptance and dispatch of a request (spec/41_requests.md R81 to R83), the
response (R83; spec/60_exceptions.md R113), the executor of an action list (spec/40_codec.md R78), the abort on a
transport error (R117; spec/43_init.md R112) and reset (spec/70_reset_and_hazards.md R129, R130). -/

namespace Sys2Proof.Machine

open Sys2Proof.Config

/-- R72: an event is emitted. -/
def logEvent (e : Event) (s : State) : State := { s with events := s.events ++ [e] }

/-- R43 (4), R78: a wait starts when the action before it completes, so when `AIX` reaches a `T t`, `TMR <- t`. -/
def armTimer (s : State) : State :=
  match s.act[s.aix]? with
  | some (.wait t) => { s with tmr := BitVec.ofNat 16 t }
  | some (.write _) => s
  | none => s

/-- R82, R78: `ACT <- l`, `ST <- EXEC`, `AIX <- 0`. -/
def startList (l : List Action) (s : State) : State :=
  armTimer { s with st := .exec, act := l, aix := 0 }

/-- R83, R113: a response is delivered. It records `LAST_RESP`, and `ST` is READY after it, but in FAULT, which it does
not leave (R119). From here on `REQ` is unspecified (R27), so it takes a free value (log entry 7). -/
def respond (c : RespCode) (s : State) : State :=
  { s with
    st := if s.st = .fault then .fault else .ready
    lastResp := c
    rsp := some c
    events := s.events ++ [.resp c]
    req := freeReq s.freeCount
    freeCount := s.freeCount + 1 }

/-- R32: the response pulse ends. -/
def endPulse (s : State) : State := { s with rsp := none }

/-- R81: the word on the request port is accepted, `REQ <- req_word`. -/
def accept (w : ReqWord) (rest : List ReqWord) (s : State) : State :=
  { s with req := w, hostQueue := rest }

/-- R82, R116: the checks before a request's own effect. In FAULT the answer is ERR_FAULT, whatever the word; in READY
the request has its effect; in INIT and EXEC it is not accepted and nothing happens (R81, log entry 13). -/
def dispatch (effect : State → State) (s : State) : Host.Outcome State Fault Refusal :=
  match s.st with
  | .fault => .next (respond .errFault s)
  | .ready => .next (effect s)
  | .init => .next s
  | .exec => .next s

/-- R83, R111: every action of the list has been performed. Initialization ends in READY with no response; a request
ends with the response OK. -/
def finishList (s : State) : State :=
  match s.st with
  | .init => { s with st := .ready }
  | .ready => respond .ok s
  | .exec => respond .ok s
  | .fault => respond .ok s

/-- TAKING A TRANSPORT ERROR (R117, R112): the list stops at the failed write. In EXEC the response is ERR_TRANSPORT and
`ST` is READY. In INIT there is no response, and `ST` is FAULT. `BL` and the shadows stay, and nothing else is saved. -/
def abortList (s : State) : State :=
  match s.st with
  | .init => { s with st := .fault, lastResp := .errTransport }
  | .ready => respond .errTransport s
  | .exec => respond .errTransport s
  | .fault => respond .errTransport s

/-- R16: `AIX <- AIX + 1`. -/
def nextIndex (s : State) : State := { s with aix := s.aix + 1 }

/-- R35: the adapter's next answer has been used. -/
def takeAnswer (rest : List BusAnswer) (s : State) : State := { s with answers := rest }

/-- R16, R78: an action has completed, `AIX <- AIX + 1`. At the end of the list it is finished; else the shadow of an
init step that begins here is written (R108) and a wait that begins here starts. -/
def advance (s : State) : State :=
  if s.aix + 1 < s.act.length then armTimer (initShadow (nextIndex s)) else finishList (nextIndex s)

/-- R26: one count of the timer. -/
def countDown (s : State) : State := { s with tmr := s.tmr - 1 }

/-- R35, R78: the write of `b` completes with the next answer of the adapter. While there is no answer the block
holds (R128). -/
def writeAction (b : Byte) (s : State) : State :=
  match s.answers with
  | [] => s
  | .ok :: rest => advance (logEvent (.write s.cfgAddr b .ok) (takeAnswer rest s))
  | .err :: rest => abortList (logEvent (.write s.cfgAddr b .err) (takeAnswer rest s))

/-- R26, R79: the wait completes when `TMR` has counted down to 0, and is one event then. -/
def waitAction (t : Nat) (s : State) : State :=
  if s.tmr = 0 then advance (logEvent (.wait t) s) else countDown s

/-- R78: the executor, one step of `run(ACT)`. -/
def executorStep (s : State) : State :=
  match s.act[s.aix]? with
  | some (.write b) => writeAction b s
  | some (.wait t) => waitAction t s
  | none => finishList s

/-- R31: every register at its reset value, with the configuration latch as given. The pins, the outside world and the
observation stay. -/
def resetRegs (addr : I2cAddr) (n f : Bit) (s : State) : State :=
  { s with
    cfgAddr := addr, cfgN := n, cfgF := f,
    bl := resetBl, func := resetFunc, dctl := resetDctl, emode := resetEmode,
    st := .init, act := initList s.pinMap resetBl n f, aix := 0, tmr := resetTmr,
    req := resetReq, lastResp := .ok, rsp := none }

/-- R32: the pin `rst` takes a level. -/
def setRst (level : Bool) (s : State) : State := { s with rst := level }

/-- R129: the write on the bus port, if there is one, is abandoned (log entry 9). -/
def abandonWrite (s : State) : State :=
  match busOut s with
  | some (addr, b) => logEvent (.abandoned addr b) s
  | none => s

/-- R129: `rst` rises. The list stops at once with no cleanup write and no response, and the state is held at its
reset values; the configuration latch keeps its value until the release samples it (log entry 15). -/
def assertReset (s : State) : State :=
  setRst true (resetRegs s.cfgAddr s.cfgN s.cfgF (abandonWrite s))

/-- R130, R18, R19: `rst` falls. The configuration pins are sampled and the initialization list starts.
With no reset asserted there is nothing to release. `CFG_ROWS = 0` is refused (D21, U6, log entry 14). -/
def releaseReset (s : State) : Host.Outcome State Fault Refusal :=
  if s.rst = false then .next s
  else if s.cfgRowsPin = 0 then .refused .cfgRowsZero
  else .next (setRst false (resetRegs s.cfgAddrPin (lineBit s.cfgRowsPin) s.cfgFontPin s))

/-- R46: the configuration pins take new levels. -/
def setPins (addr : I2cAddr) (rows : BitVec 8) (font : Bit) (s : State) : State :=
  { s with cfgAddrPin := addr, cfgRowsPin := rows, cfgFontPin := font }

/-- R81: the host has a further word to present. -/
def addRequest (w : ReqWord) (s : State) : State := { s with hostQueue := s.hostQueue ++ [w] }

/-- R35: the adapter has a further answer to give. -/
def addAnswer (a : BusAnswer) (s : State) : State := { s with answers := s.answers ++ [a] }

/-- R128: one move of the outside world. -/
def applyInput (e : Input) (s : State) : Host.Outcome State Fault Refusal :=
  match e with
  | .assertReset => .next (assertReset s)
  | .releaseReset => releaseReset s
  | .setConfig addr rows font => .next (setPins addr rows font s)
  | .request w => .next (addRequest w s)
  | .answer a => .next (addAnswer a s)

end Sys2Proof.Machine
end

