-- ==== Sys2Proof/Machine/Commands.lean ====
section
/-! DEFINITION. The meanings of the CMD requests, one a command class (spec/42_commands.md R91 to R98).
Each is the class's own rule; that they agree with the dispatch by command byte of R82 and R84 is a statement
(Machine/Generic.lean has that reading). -/

namespace Sys2Proof.Machine

/-- The effect that CMD requests share: `ACT <- send(v, 0) ++ tail` and run (R82, R84). -/
def sendCommand (v : Byte) (tail : List Action) (s : State) : State :=
  startList (send s.pinMap s.bl v 0 ++ tail) s

/-- R91: CLEAR sends 0x01 and waits `T_LONG`; it writes no shadow. -/
def execCmdClear (s : State) : Host.Outcome State Fault Refusal :=
  dispatch (sendCommand clearByte [.wait tLong]) s

/-- R92: HOME sends its byte as given and waits `T_LONG`; it writes no shadow. -/
def execCmdHome (x : Bit) (s : State) : Host.Outcome State Fault Refusal :=
  dispatch (sendCommand (homeByte x) [.wait tLong]) s

/-- R93: `EMODE <- v[1:0]` before the first write, then the byte is sent. -/
def execCmdEntryModeSet (i sh : Bit) (s : State) : Host.Outcome State Fault Refusal :=
  dispatch (fun s => sendCommand (entryModeByte i sh) [] { s with emode := i ++ sh }) s

/-- R94: `DCTL <- v[2:0]` before the first write, then the byte is sent. -/
def execCmdDisplayControl (d c b : Bit) (s : State) : Host.Outcome State Fault Refusal :=
  dispatch (fun s => sendCommand (displayControlByte d c b) [] { s with dctl := d ++ (c ++ b) }) s

/-- R95: the byte is sent as given; no shadow. -/
def execCmdCursorShift (c r : Bit) (x : BitVec 2) (s : State) : Host.Outcome State Fault Refusal :=
  dispatch (sendCommand (cursorShiftByte c r x) []) s

/-- R96, the legal form, DL = 0: `FUNC <- v[4:2]` before the first write, then the byte is sent as given. -/
def execCmdFunctionSet (n f : Bit) (x : BitVec 2) (s : State) : Host.Outcome State Fault Refusal :=
  dispatch (fun s => sendCommand (functionSetByte 0 n f x) [] { s with func := 0#1 ++ (n ++ f) }) s

/-- R97: the byte is sent, whatever the address; no shadow. -/
def execCmdSetCgramAddr (a : BitVec 6) (s : State) : Host.Outcome State Fault Refusal :=
  dispatch (sendCommand (setCgramByte a) []) s

/-- R98: the byte is sent, whatever the address; no shadow. -/
def execCmdSetDdramAddr (a : BitVec 7) (s : State) : Host.Outcome State Fault Refusal :=
  dispatch (sendCommand (setDdramByte a) []) s

end Sys2Proof.Machine
end

