-- ==== Sys2Proof/Machine/Illegal.lean ====
section
/-! DEFINITION. The meanings of the illegal request words (spec/41_requests.md R87, R88; spec/30_encoding.md R56).
Each is answered ERR_ILLEGAL with no bus write; the operands are not read. -/

namespace Sys2Proof.Machine

/-- R56, R88: the command byte 0x00. -/
def execIllegalCmdZero (s : State) : Host.Outcome State Fault Refusal :=
  dispatch (respond .errIllegal) s

/-- R56, R88, R96: FUNCTION_SET with DL = 1. `FUNC` stays. -/
def execIllegalFunctionSetDl1 (s : State) : Host.Outcome State Fault Refusal :=
  dispatch (respond .errIllegal) s

/-- R56, R86, R88: SETBL with ARG[7:1] not 0. `BL` stays. -/
def execIllegalSetbl (s : State) : Host.Outcome State Fault Refusal :=
  dispatch (respond .errIllegal) s

/-- R87, R88: the reserved operation. -/
def execIllegalOp (s : State) : Host.Outcome State Fault Refusal :=
  dispatch (respond .errIllegal) s

end Sys2Proof.Machine
end

