-- ==== Sys2Proof/Machine/Requests.lean ====
section
/-! DEFINITION. The meanings of the DATA and SETBL requests (spec/41_requests.md R85, R86). -/

namespace Sys2Proof.Machine

/-- R85: `ACT <- send(ARG, 1)`, whatever the byte; no shadow and no long wait. -/
def execData (d : Byte) (s : State) : Host.Outcome State Fault Refusal :=
  dispatch (fun s => startList (send s.pinMap s.bl d 1) s) s

/-- R86: `BL <- b` and the response OK, with no bus write and without entering EXEC (R83). -/
def execSetbl (b : Bit) (s : State) : Host.Outcome State Fault Refusal :=
  dispatch (fun s => respond .ok { s with bl := b }) s

end Sys2Proof.Machine
end

