-- ==== Sys2Proof/Machine/Dispatch.lean ====
section
/-! DEFINITION. What each request does once it is accepted, one arm a row of the opcode table (spec/30_encoding.md R55). -/

namespace Sys2Proof.Machine

def exec (i : Instr) (s : State) : Host.Outcome State Fault Refusal :=
  match i with
  | .cmdClear => Sys2Proof.Machine.execCmdClear s
  | .cmdHome x => Sys2Proof.Machine.execCmdHome x s
  | .cmdEntryModeSet i1 sh => Sys2Proof.Machine.execCmdEntryModeSet i1 sh s
  | .cmdDisplayControl d c b => Sys2Proof.Machine.execCmdDisplayControl d c b s
  | .cmdCursorShift c r x => Sys2Proof.Machine.execCmdCursorShift c r x s
  | .cmdFunctionSet n f x => Sys2Proof.Machine.execCmdFunctionSet n f x s
  | .cmdSetCgramAddr a => Sys2Proof.Machine.execCmdSetCgramAddr a s
  | .cmdSetDdramAddr a => Sys2Proof.Machine.execCmdSetDdramAddr a s
  | .data d => Sys2Proof.Machine.execData d s
  | .setbl b => Sys2Proof.Machine.execSetbl b s
  | .illegalCmdZero => Sys2Proof.Machine.execIllegalCmdZero s
  | .illegalFunctionSetDl1 _ => Sys2Proof.Machine.execIllegalFunctionSetDl1 s
  | .illegalSetbl _ _ => Sys2Proof.Machine.execIllegalSetbl s
  | .illegalOp _ => Sys2Proof.Machine.execIllegalOp s

end Sys2Proof.Machine
end

