-- ==== Sys2Proof/Machine/Block.lean ====
section
/-! DEFINITION. One step of the block and of the outside world around it. -/

namespace Sys2Proof.Machine

/-- R81: the request on the port, if there is one, is accepted, decoded from `REQ` and dispatched. With none the
block is idle (R127). -/
def requestStep (s : State) : Host.Outcome State Fault Refusal :=
  match s.hostQueue with
  | [] => .next s
  | w :: rest => exec (decode w) (accept w rest s)

/-- One step of the block. While reset is asserted its state is held (R129); a response pulse out ends (R32), and only
then may a request be accepted; in INIT and EXEC the list runs (R78), and no request is accepted (R81). -/
def blockStep (s : State) : Host.Outcome State Fault Refusal :=
  if s.rst = true then .next s
  else if s.rsp ≠ none then .next (endPulse s)
  else
    match s.st with
    | .init => .next (executorStep s)
    | .exec => .next (executorStep s)
    | .ready => requestStep s
    | .fault => requestStep s

/-- A pin event has been taken. -/
def takeInput (rest : List (Nat × Input)) (s : State) : State := { s with inputs := rest }

/-- The pin event that is due, if one is, and the state without it. -/
def dueInput (s : State) : Option (Input × State) :=
  match s.inputs with
  | (0, e) :: rest => some (e, takeInput rest s)
  | (_ + 1, _) :: _ => none
  | [] => none

/-- A step of the block brings the next pin event nearer by one. -/
def tickInputs (s : State) : State :=
  match s.inputs with
  | (n + 1, e) :: rest => { s with inputs := (n, e) :: rest }
  | (0, _) :: _ => s
  | [] => s

/-- One step: the pin event that is due, or else a step of the block (log entry 4). -/
def machineStep (s : State) : Host.Outcome State Fault Refusal :=
  match dueInput s with
  | some (e, s1) => applyInput e s1
  | none => blockStep (tickInputs s)

/-- The state in which the very next step accepts the request word `w`: reset released, no pulse out, no pin event on
its way, the sequencer past initialization (FAULT stays FAULT), and `w` on the request port (log entry 12). -/
def presentWord (w : ReqWord) (s : State) : State :=
  { s with
    rst := false, rsp := none, inputs := [], st := if s.st = .fault then .fault else .ready,
    hostQueue := w :: s.hostQueue }

end Sys2Proof.Machine
end

