-- ==== Sys2Proof/Machine/Step.lean ====
section
/-! DEFINITION. The machine's step, and how a request word is placed where the next step takes it. -/

namespace Sys2Proof.Machine

/-- One step of the machine (Machine/Block.lean). -/
def step (s : State) : Host.Outcome State Fault Refusal := machineStep s

/-- `s` with the request word `w` of the opcode table on the request port, where the very next step accepts it. -/
def State.withFetchWord (s : State) (nbits w : Nat) : State :=
  presentWord (BitVec.ofNat 10 (w % 2 ^ nbits)) s

end Sys2Proof.Machine
end

