-- ==== Sys2Proof/Machine/Assembler.lean ====
section
/-! DEFINITION. The assembler (spec/30_encoding.md R59) and the pseudo-instructions (R60 to R71). They define request
words and no behaviour of the block. What R59 leaves open of the text is in log entry 18. -/

namespace Sys2Proof.Machine

/-- The request word of `CMD v` (R49, R59). -/
def cmdWord (v : Byte) : ReqWord := reqWord 0b00 v

/-- The request word of `DATA v` (R49, R59). -/
def dataWord (v : Byte) : ReqWord := reqWord 0b01 v

/-- The request word of `SETBL b` (R49, R59). -/
def setblWord (b : Bit) : ReqWord := reqWord 0b10 (b.setWidth 8)

/-- R62: DISPCTL, `0x08 | (d << 2) | (c << 1) | b`. -/
def expandDispctl (d c b : Bit) : ReqWord :=
  cmdWord (0x08 ||| (d.setWidth 8 <<< 2) ||| (c.setWidth 8 <<< 1) ||| b.setWidth 8)

/-- R63: ENTRY, `0x04 | (i << 1) | s`. -/
def expandEntry (i s : Bit) : ReqWord :=
  cmdWord (0x04 ||| (i.setWidth 8 <<< 1) ||| s.setWidth 8)

/-- R64: SHIFT, `0x10 | (c << 3) | (r << 2)`. -/
def expandShift (c r : Bit) : ReqWord :=
  cmdWord (0x10 ||| (c.setWidth 8 <<< 3) ||| (r.setWidth 8 <<< 2))

/-- R65: SETDDRAM, `(0x80 | a) & 0xFF`. -/
def expandSetDdram (a : Nat) : ReqWord := cmdWord (BitVec.ofNat 8 ((0x80 ||| a) &&& 0xFF))

/-- R66: the row base `ROWOFF[r]`, of a row 0 to 3. -/
def rowOffset (cols : Nat) : Nat → Nat
  | 0 => 0x00
  | 1 => 0x40
  | 2 => 0x00 + cols
  | _ + 3 => 0x40 + cols

/-- R66: the row clamp, `min(row, ROWS - 1, 3)`. -/
def clampRow (rows row : Nat) : Nat := min (min row (rows - 1)) 3

/-- R66: SETCURSOR, `SETDDRAM ROWOFF[r] + col`. -/
def expandSetCursor (cols rows col row : Nat) : ReqWord :=
  expandSetDdram (rowOffset cols (clampRow rows row) + col)

/-- R67: SETCGRAM, `0x40 | ((idx & 0x7) << 3)`. -/
def expandSetCgram (idx : Nat) : ReqWord := cmdWord (BitVec.ofNat 8 (0x40 ||| ((idx &&& 0x7) <<< 3)))

/-- The pseudo-instructions (R60 to R71). -/
inductive Pseudo where
  | clear
  | home
  | dispctl (d c b : Bit)
  | entry (i s : Bit)
  | shift (c r : Bit)
  | setDdram (a : Nat)
  | setCursor (col row : Nat)
  | setCgram (idx : Nat)
  | createChar (idx : Nat) (b0 b1 b2 b3 b4 b5 b6 b7 : Byte)
  | print (codes : List Byte)
  | backlight
  | noBacklight
deriving DecidableEq, Repr

/-- R60 to R71: the expansion into requests, for a display of `cols` by `rows` (P6, `rows` at least 1). -/
def expand (cols rows : Nat) : Pseudo → List ReqWord
  | .clear => [cmdWord 0x01]
  | .home => [cmdWord 0x02]
  | .dispctl d c b => [expandDispctl d c b]
  | .entry i s => [expandEntry i s]
  | .shift c r => [expandShift c r]
  | .setDdram a => [expandSetDdram a]
  | .setCursor col row => [expandSetCursor cols rows col row]
  | .setCgram idx => [expandSetCgram idx]
  | .createChar idx b0 b1 b2 b3 b4 b5 b6 b7 => expandSetCgram idx :: [b0, b1, b2, b3, b4, b5, b6, b7].map dataWord
  | .print codes => codes.map dataWord
  | .backlight => [setblWord 1]
  | .noBacklight => [setblWord 0]

/-- Why a line of assembler text is refused. -/
inductive AsmReject where
  /-- The line's first word is none of CMD, DATA, SETBL. -/
  | mnemonic
  /-- The operand is no number or character of R59, or is out of range. -/
  | operand
deriving DecidableEq, Repr

/-- The value of a digit in a base up to 16. -/
def digitValue (base : Nat) (c : Char) : Option Nat :=
  let n := c.toNat
  let d :=
    if 48 ≤ n ∧ n ≤ 57 then n - 48
    else if 65 ≤ n ∧ n ≤ 70 then n - 55
    else if 97 ≤ n ∧ n ≤ 102 then n - 87
    else base
  if d < base then some d else none

/-- The number the digits make, after a value so far. -/
def digitsValue (base acc : Nat) : List Char → Option Nat
  | [] => some acc
  | c :: cs =>
    match digitValue base c with
    | some d => digitsValue base (acc * base + d) cs
    | none => none

/-- R59: a number in hexadecimal `0x..`, binary `0b..` or decimal. -/
def numberValue : List Char → Option Nat
  | [] => none
  | ['0', 'x'] => none
  | ['0', 'b'] => none
  | '0' :: 'x' :: ds => digitsValue 16 0 ds
  | '0' :: 'b' :: ds => digitsValue 2 0 ds
  | ds => digitsValue 10 0 ds

/-- The quote of a character literal. -/
def quoteChar : Char := Char.ofNat 39

/-- R59: an operand of DATA, a number or a character literal standing for its code. -/
def dataOperand : List Char → Option Nat
  | [q1, c, q2] => if q1 = quoteChar ∧ q2 = quoteChar then some c.toNat else numberValue [q1, c, q2]
  | cs => numberValue cs

/-- R59: a comment runs from `;` to the end of the line; a `;` inside a character literal starts none. -/
def dropComment : List Char → List Char
  | [] => []
  | [c] => if c = ';' then [] else [c]
  | [c, d] => if c = ';' then [] else c :: dropComment [d]
  | c :: d :: e :: cs =>
    if c = ';' then []
    else if c = quoteChar ∧ e = quoteChar then c :: d :: e :: dropComment cs
    else c :: dropComment (d :: e :: cs)

/-- A space or a tab. -/
def isBlank (c : Char) : Bool := c.toNat == 32 || c.toNat == 9

/-- The text without blanks at its ends. -/
def trimBlanks (cs : List Char) : List Char :=
  ((cs.dropWhile isBlank).reverse.dropWhile isBlank).reverse

/-- The word a number in range makes. -/
def operandWord (limit : Nat) (make : Nat → ReqWord) : Option Nat → Except AsmReject (Option ReqWord)
  | some n => if n < limit then .ok (some (make n)) else .error .operand
  | none => .error .operand

/-- R59: the request word of a line, and none for a line with nothing but blanks and comment. -/
def assembleLine (line : List Char) : Except AsmReject (Option ReqWord) :=
  let body := trimBlanks (dropComment line)
  let name := body.takeWhile (fun c => !isBlank c)
  let operand := trimBlanks (body.dropWhile (fun c => !isBlank c))
  if body = [] then .ok none
  else if name = ['C', 'M', 'D'] then
    operandWord 256 (fun n => cmdWord (BitVec.ofNat 8 n)) (numberValue operand)
  else if name = ['D', 'A', 'T', 'A'] then
    operandWord 256 (fun n => dataWord (BitVec.ofNat 8 n)) (dataOperand operand)
  else if name = ['S', 'E', 'T', 'B', 'L'] then
    operandWord 2 (fun n => setblWord (BitVec.ofNat 1 n)) (numberValue operand)
  else .error .mnemonic

/-- R59: a program, one request a line. -/
def assemble : List (List Char) → Except AsmReject (List ReqWord)
  | [] => .ok []
  | line :: rest =>
    match assembleLine line with
    | .error e => .error e
    | .ok none => assemble rest
    | .ok (some w) =>
      match assemble rest with
      | .error e => .error e
      | .ok ws => .ok (w :: ws)

end Sys2Proof.Machine
end

