-- ==== Sys2Proof/Machine/Conformance.lean ====
section
/-! DEFINITION. When the event sequence of an implementation conforms to the one the rules give (spec/40_codec.md R79):
after lengthenings of a wait and merges of two adjacent waits, and nothing else. -/

namespace Sys2Proof.Machine

/-- R79: one lengthening (a) or one merge (b). -/
inductive Relax : List Event → List Event → Prop where
  | lengthen (before after : List Event) (t u : Nat) (h : t ≤ u) :
      Relax (before ++ .wait t :: after) (before ++ .wait u :: after)
  | merge (before after : List Event) (a b c : Nat) (h : a + b ≤ c) :
      Relax (before ++ .wait a :: .wait b :: after) (before ++ .wait c :: after)

/-- R79: the second sequence conforms to the first. -/
def Conforms (rules implementation : List Event) : Prop :=
  Relation.ReflTransGen Relax rules implementation

/-- The events of a sequence that are no waits, each with the waiting since the one before it (`waited` of it before the
sequence begins), and the waiting after the last one. -/
def gaps (waited : Nat) : List Event → List (Nat × Event) × Nat
  | [] => ([], waited)
  | .wait t :: es => gaps (waited + t) es
  | .write addr b r :: es => ((waited, .write addr b r) :: (gaps 0 es).1, (gaps 0 es).2)
  | .resp c :: es => ((waited, .resp c) :: (gaps 0 es).1, (gaps 0 es).2)
  | .abandoned addr b :: es => ((waited, .abandoned addr b) :: (gaps 0 es).1, (gaps 0 es).2)

end Sys2Proof.Machine
end

