-- ==== Sys2Proof/Machine/Generic.lean ====
section
/-! DEFINITION. The dispatch of a request word as the spec's pseudocode writes it (spec/41_requests.md R82), by the
word's OP and the command byte's class and with no decoded instruction. It is a second reading of the same rules beside
the meanings of Machine/Commands.lean, Requests.lean and Illegal.lean, and that the two agree is a statement. -/

namespace Sys2Proof.Machine

open Sys2Proof.Config

/-- R82: the action list of a request word, for the words that have one. -/
def requestList (pm : PinMap) (bl : Bit) (w : ReqWord) : Option (List Action) :=
  if illegal w then none
  else if opOf w = 0b00 then some (cmdList pm bl (argOf w))
  else if opOf w = 0b01 then some (send pm bl (argOf w) 1)
  else none

/-- R82: `dispatch(REQ)` up to `run(ACT)`. -/
def dispatchWord (w : ReqWord) (s : State) : State :=
  if s.st = .fault then respond .errFault s
  else if illegal w then respond .errIllegal s
  else if opOf w = 0b00 then startList (cmdList s.pinMap s.bl (argOf w)) (shadowWrite (argOf w) s)
  else if opOf w = 0b01 then startList (send s.pinMap s.bl (argOf w) 1) s
  else respond .ok { s with bl := (argOf w).extractLsb' 0 1 }

end Sys2Proof.Machine
end

