-- ==== Sys2Proof/Machine/Transaction.lean ====
section
/-! DEFINITION. A whole action list at once (spec/40_codec.md R78): the events it produces against a list of answers of
the bus adapter, how it ends, and what is left. The machine runs a list one step at a time; that the two agree is a
statement. -/

namespace Sys2Proof.Machine

/-- What running an action list comes to. -/
structure ListRun where
  /-- The events, in order. -/
  events : List Event
  /-- Whether the list ran to its end; else it was aborted by a transport error. -/
  finished : Bool
  /-- The index the executor stops at: the length of the list, or the index of the failed write. -/
  index : Nat
  /-- The answers of the adapter that are left. -/
  left : List BusAnswer
deriving DecidableEq, Repr

/-- The run of a list whose first action completed with the event `e`. -/
def ListRun.after (e : Event) (r : ListRun) : ListRun :=
  { r with events := e :: r.events, index := r.index + 1 }

/-- R78: `run(ACT)` against the adapter's answers; `none` where a write is never answered, which holds the block for
ever (R128). -/
def runList (addr : I2cAddr) : List Action → List BusAnswer → Option ListRun
  | [], as => some ⟨[], true, 0, as⟩
  | .wait t :: l, as => (runList addr l as).map (ListRun.after (.wait t))
  | .write _ :: _, [] => none
  | .write b :: l, .ok :: as => (runList addr l as).map (ListRun.after (.write addr b .ok))
  | .write b :: _, .err :: as => some ⟨[.write addr b .err], false, 0, as⟩

/-- The events of a list all of whose writes are answered OK. -/
def okEvents (addr : I2cAddr) (l : List Action) : List Event :=
  l.map fun a =>
    match a with
    | .write b => .write addr b .ok
    | .wait t => .wait t

/-- R110, R140: the number of writes of a list. -/
def writeCount (l : List Action) : Nat :=
  (l.map fun a =>
    match a with
    | .write _ => 1
    | .wait _ => 0).sum

/-- R110, R140: the number of waits of a list. -/
def waitCount (l : List Action) : Nat :=
  (l.map fun a =>
    match a with
    | .write _ => 0
    | .wait _ => 1).sum

/-- R110, R140: the minimum waiting of a list, in microseconds. -/
def waitTotal (l : List Action) : Nat :=
  (l.map fun a =>
    match a with
    | .write _ => 0
    | .wait t => t).sum

end Sys2Proof.Machine
end

