-- ==== Sys2Proof/Safety.lean ====
section
/-! DEFINITION. What holds in every state a run reaches, and the terms the statements use. -/

namespace Sys2Proof.Machine

open Sys2Proof.Config

/-- Nothing from outside comes between the block's steps: reset is released, no response pulse is out and no pin event
is on its way. -/
def State.Quiet (s : State) : Prop := s.rst = false ∧ s.rsp = none ∧ s.inputs = []

/-- R141: a run of the block is over. -/
def State.runOver (s : State) : Bool :=
  (s.st == .ready || s.st == .fault) && s.hostQueue == [] && s.rsp == none

/-- R26: the timer counts down the wait in progress, and is 0 where no wait is. -/
def State.timerOk (s : State) : Prop :=
  match s.act[s.aix]? with
  | some (.wait t) => s.tmr.toNat ≤ t
  | some (.write _) => s.tmr = 0
  | none => s.tmr = 0

/-- What holds while the initialization list runs (R99, R108, R111). -/
structure State.InitInv (s : State) : Prop where
  list : s.act = initList s.pinMap 1 s.cfgN s.cfgF
  index : s.aix < 67
  backlight : s.bl = 1
  last : s.lastResp = .ok
  funcShadow : s.func = if 26 ≤ s.aix then 0#1 ++ (s.cfgN ++ s.cfgF) else 0
  dctlShadow : s.dctl = if 36 ≤ s.aix then 0b100 else 0
  emodeShadow : s.emode = if 57 ≤ s.aix then 0b10 else 0
  timer : s.timerOk

/-- What holds while a request's list runs (R27, R82): the list is that of the request latched in `REQ`, and the shadow
of its class holds its field. -/
structure State.ExecInv (s : State) : Prop where
  list : requestList s.pinMap s.bl s.req = some s.act
  index : s.aix < s.act.length
  shadow : opOf s.req = 0b00 → shadowWrite (argOf s.req) s = s
  timer : s.timerOk

/-- The invariant of the machine. -/
structure State.Inv (s : State) : Prop where
  /-- R7: `EN_MASK` and `BL_MASK` differ. -/
  masks : s.pinMap.wf = true
  /-- R16: `AIX` is at most 67, so that 7 bits hold it. -/
  indexBound : s.aix ≤ 67
  /-- R22, R96: `FUNC.DL` is 0. -/
  dataLength : s.func.extractLsb' 2 1 = 0
  /-- R32: a response is pending only in READY and FAULT, and it is the last one. -/
  pulse : ∀ c, s.rsp = some c → (s.st = .ready ∨ s.st = .fault) ∧ s.lastResp = c
  inInit : s.st = .init → s.InitInv
  inExec : s.st = .exec → s.ExecInv
  /-- R26: the timer is 0 where no list runs. -/
  timerIdle : s.st = .ready ∨ s.st = .fault → s.tmr = 0
  /-- R119: in FAULT `BL` is frozen at its reset value, and `LAST_RESP` is that of the failure or of a refused request. -/
  inFault : s.st = .fault → s.bl = 1 ∧ (s.lastResp = .errTransport ∨ s.lastResp = .errFault)
  /-- R129: while reset is asserted the sequencer stands at the start of the initialization list. -/
  inReset : s.rst = true → s.st = .init ∧ s.aix = 0

/-- R7: the bits 3..1 that neither mask uses. -/
def unusedMask (pm : PinMap) : Byte := 0x0E &&& ~~~(enMask pm) &&& ~~~(blMask pm)

/-- R36, R76: one nibble transfer laid out by the expander's lines: the nibble on D7..D4, bits 3..1 low but for the
backlight and, in the second byte, EN, and RS on bit 0; at least 1 us high and 50 us of settling. -/
def nibbleForm (pm : PinMap) (bl : Bit) (nib : BitVec 4) (rs : Bit) : List Action :=
  let n : Byte := nib ++ (0#3 ++ rs)
  [.write (n ||| blTerm pm bl), .write (n ||| enMask pm ||| blTerm pm bl), .wait 1, .write (n ||| blTerm pm bl), .wait 50]

/-- R37, R77: one byte laid out by the expander's lines, the high nibble first. -/
def byteForm (pm : PinMap) (bl : Bit) (v : Byte) (rs : Bit) : List Action :=
  nibbleForm pm bl (v.extractLsb' 4 4) rs ++ nibbleForm pm bl (v.extractLsb' 0 4) rs

/-- R78, R83, R117: with nothing from outside in between, the list that `u` has just started runs to its end.
If every write is answered OK, then after some number of steps `ST` is READY, every action has been performed in order,
and the response OK has been delivered. Whatever the answers are, the events are those of the
list up to its end or to the first failed write, and then the one response. Nothing else changes, `BL` and the shadows
among it, but that `REQ` is unspecified again. `ACT` and `AIX` are left open at the end: R16 speaks of them only while a
list runs. -/
def RunsToEnd (u : State) : Prop :=
  u.Quiet →
    (∀ rest, u.answers = List.replicate (writeCount u.act) .ok ++ rest →
      ∃ n t, Host.Core.run Sys2Proof.core n u = .next t ∧
        t = { u with
          st := .ready, act := t.act, aix := t.aix, tmr := 0, answers := rest, lastResp := .ok, rsp := some .ok,
          events := u.events ++ okEvents u.cfgAddr u.act ++ [.resp .ok], req := t.req, freeCount := t.freeCount }) ∧
    ∀ r, runList u.cfgAddr u.act u.answers = some r →
      let resp : RespCode := if r.finished then .ok else .errTransport
      ∃ n t, Host.Core.run Sys2Proof.core n u = .next t ∧
        t = { u with
          st := .ready, act := t.act, aix := t.aix, tmr := t.tmr, answers := r.left, lastResp := resp, rsp := some resp,
          events := u.events ++ r.events ++ [.resp resp], req := t.req, freeCount := t.freeCount }

/-- R38, R136: the number of enable pulses of a list, each of which is a nibble transfer. -/
def pulseCount (pm : PinMap) (l : List Action) : Nat :=
  (l.filter fun a =>
    match a with
    | .write b => b &&& enMask pm != 0
    | .wait _ => false).length

/-- R132, R133: every write that raises EN is followed by a wait of at least 1 us, then by the same byte with EN low,
then by a wait of at least 50 us. -/
def pulsesTimed (pm : PinMap) : List Action → Bool
  | [] => true
  | .wait _ :: l => pulsesTimed pm l
  | .write b :: l =>
    (b &&& enMask pm == 0 ||
      match l with
      | .wait t :: .write c :: .wait u :: _ => decide (1 ≤ t) && c == b &&& ~~~(enMask pm) && decide (50 ≤ u)
      | _ => false) && pulsesTimed pm l

/-- Two states that differ at most in the shadow registers. -/
def SameButShadows (s t : State) : Prop :=
  t = { s with func := t.func, dctl := t.dctl, emode := t.emode }

/-- Two states that differ at most in the words the host still presents and in the levels of the configuration pins. -/
def SameButHost (s t : State) : Prop :=
  t = { s with
    hostQueue := t.hostQueue, cfgAddrPin := t.cfgAddrPin, cfgRowsPin := t.cfgRowsPin, cfgFontPin := t.cfgFontPin }

/-- The next step is the pin event `e`. -/
def State.inputDue (s : State) (e : Input) : Prop := ∃ rest, s.inputs = (0, e) :: rest

/-- The next step changes the level of `rst` or asserts it again. -/
def State.resetDue (s : State) : Prop := s.inputDue .assertReset ∨ s.inputDue .releaseReset

/-- R32, R81: the next step accepts the request word `w`. -/
def State.acceptsNext (s : State) (w : ReqWord) : Prop :=
  s.rst = false ∧ dueInput s = none ∧ reqReady s = true ∧ s.hostQueue.head? = some w

end Sys2Proof.Machine
end

