-- ==== Sys2Proof/Certificates/Slice0/Obligations.lean ====
section
/-! DEFINITION. The statements about the model, each a rule of spec/ or drawn from one. -/

open Sys2Proof Sys2Proof.Machine Sys2Proof.Config

/-! ## What each request does -/

/-- R91, R92: CLEAR and HOME send their byte as a command, write no shadow, and wait 2 ms more. -/
def Obligations.ClearAndHomeSendAndWaitLong : Prop :=
  ∀ s : State, s.st = .ready →
    (∃ u, u = { s with st := .exec, act := byteForm s.pinMap s.bl 0x01 0 ++ [.wait 2000], aix := 0 } ∧
      exec .cmdClear s = .next u ∧ RunsToEnd u) ∧
    ∀ x : Bit, ∃ u,
      u = { s with st := .exec, act := byteForm s.pinMap s.bl (0b0000001#7 ++ x) 0 ++ [.wait 2000], aix := 0 } ∧
      exec (.cmdHome x) s = .next u ∧ RunsToEnd u

/-- R93: ENTRY_MODE_SET writes `EMODE` before the first write, then sends its byte as a command. -/
def Obligations.EntryModeSetWritesEmodeAndSends : Prop :=
  ∀ (s : State) (i sh : Bit), s.st = .ready →
    let u := { s with
      emode := i ++ sh, st := .exec, act := byteForm s.pinMap s.bl (0b000001#6 ++ (i ++ sh)) 0, aix := 0 }
    exec (.cmdEntryModeSet i sh) s = .next u ∧ RunsToEnd u

/-- R94: DISPLAY_CONTROL writes `DCTL` before the first write, then sends its byte as a command. -/
def Obligations.DisplayControlWritesDctlAndSends : Prop :=
  ∀ (s : State) (d c b : Bit), s.st = .ready →
    let u := { s with
      dctl := d ++ (c ++ b), st := .exec, act := byteForm s.pinMap s.bl (0b00001#5 ++ (d ++ (c ++ b))) 0, aix := 0 }
    exec (.cmdDisplayControl d c b) s = .next u ∧ RunsToEnd u

/-- R96: FUNCTION_SET with DL = 0 writes `FUNC` before the first write, then sends its byte as a command; with DL = 1
it sends nothing, leaves `FUNC` and the response is ERR_ILLEGAL. `FUNC.DL`, which reset clears, stays 0 at every step. -/
def Obligations.FunctionSetWritesFuncAndSends : Prop :=
  (∀ (s : State) (n f : Bit) (x : BitVec 2), s.st = .ready →
    let u := { s with
      func := 0#1 ++ (n ++ f), st := .exec, act := byteForm s.pinMap s.bl (0b0010#4 ++ (n ++ (f ++ x))) 0, aix := 0 }
    exec (.cmdFunctionSet n f x) s = .next u ∧ RunsToEnd u) ∧
  (∀ (s : State) (x : BitVec 4), s.st = .ready →
    ∃ t, exec (.illegalFunctionSetDl1 x) s = .next t ∧
      t = { s with
        lastResp := .errIllegal, rsp := some .errIllegal, events := s.events ++ [.resp .errIllegal],
        req := t.req, freeCount := t.freeCount }) ∧
  ∀ s t : State, s.func.extractLsb' 2 1 = 0 → step s = .next t → t.func.extractLsb' 2 1 = 0

/-- R95, R97, R98: CURSOR_SHIFT, SET_CGRAM_ADDR and SET_DDRAM_ADDR send their byte as given and write no shadow. -/
def Obligations.ShiftAndAddressCommandsOnlySend : Prop :=
  ∀ s : State, s.st = .ready →
    (∀ (c r : Bit) (x : BitVec 2),
      let u := { s with st := .exec, act := byteForm s.pinMap s.bl (0b0001#4 ++ (c ++ (r ++ x))) 0, aix := 0 }
      exec (.cmdCursorShift c r x) s = .next u ∧ RunsToEnd u) ∧
    (∀ a : BitVec 6,
      let u := { s with st := .exec, act := byteForm s.pinMap s.bl (0b01#2 ++ a) 0, aix := 0 }
      exec (.cmdSetCgramAddr a) s = .next u ∧ RunsToEnd u) ∧
    ∀ a : BitVec 7,
      let u := { s with st := .exec, act := byteForm s.pinMap s.bl (0b1#1 ++ a) 0, aix := 0 }
      exec (.cmdSetDdramAddr a) s = .next u ∧ RunsToEnd u

/-- R85: DATA sends any byte with RS = 1, writes no shadow and adds no long wait; its list runs to its end or to the first
failed write (R78, R83, R117). -/
def Obligations.DataSendsWithRegisterSelect : Prop :=
  ∀ (s : State) (d : Byte), s.st = .ready →
    let u := { s with st := .exec, act := byteForm s.pinMap s.bl d 1, aix := 0 }
    exec (.data d) s = .next u ∧ RunsToEnd u

/-- R86: SETBL writes `BL` and answers OK at once: no list is started and no write is issued. With a further argument
bit set it is ERR_ILLEGAL, and in FAULT it is ERR_FAULT and `BL` stays. `REQ`, which has no specified value after a
response (R27), is left out. -/
def Obligations.SetblWritesBacklightAndAnswersOk : Prop :=
  (∀ (s : State) (b : Bit), s.st = .ready →
    ∃ t, exec (.setbl b) s = .next t ∧
      t = { s with
        bl := b, lastResp := .ok, rsp := some .ok, events := s.events ++ [.resp .ok],
        req := t.req, freeCount := t.freeCount }) ∧
  (∀ (s : State) (p : BitVec 7) (low : Bit), s.st = .ready → p ≠ 0 →
    ∃ t, exec (decode (0b10#2 ++ (p ++ low))) s = .next t ∧
      t = { s with
        lastResp := .errIllegal, rsp := some .errIllegal, events := s.events ++ [.resp .errIllegal],
        req := t.req, freeCount := t.freeCount }) ∧
  ∀ (s : State) (b : Bit), s.st = .fault →
    ∃ t, exec (.setbl b) s = .next t ∧
      t = { s with
        lastResp := .errFault, rsp := some .errFault, events := s.events ++ [.resp .errFault],
        req := t.req, freeCount := t.freeCount }

/-- R88: the words listed in R56, and no others, are answered ERR_ILLEGAL in READY with no write and no other change,
but that `REQ` has no specified value after a response (R27). -/
def Obligations.IllegalWordsAreRefusedWithNoWrite : Prop :=
  ∀ (s : State) (w : ReqWord), s.st = .ready →
    let op := w.extractLsb' 8 2
    let arg := w.extractLsb' 0 8
    (op = 0b11 ∨ (op = 0b10 ∧ arg.extractLsb' 1 7 ≠ 0) ∨ (op = 0b00 ∧ arg = 0x00) ∨
        (op = 0b00 ∧ arg.extractLsb' 4 4 = 0b0011) ↔
      ∃ t, exec (decode w) s = .next t ∧
        t = { s with
          lastResp := .errIllegal, rsp := some .errIllegal, events := s.events ++ [.resp .errIllegal],
          req := t.req, freeCount := t.freeCount })

/-- R56, R88: each of the four illegal instructions completes in READY with the response ERR_ILLEGAL and no other
change. -/
def Obligations.IllegalInstructionsAnswerErrIllegal : Prop :=
  ∀ (s : State) (i : Instr), s.st = .ready →
    (i = .illegalCmdZero ∨ (∃ x, i = .illegalFunctionSetDl1 x) ∨ (∃ p low, i = .illegalSetbl p low) ∨
      (∃ x, i = .illegalOp x)) →
    ∃ t, exec i s = .next t ∧
      t = { s with
        lastResp := .errIllegal, rsp := some .errIllegal, events := s.events ++ [.resp .errIllegal],
        req := t.req, freeCount := t.freeCount }

/-- R116 (1), R119: in FAULT every request, legal or not, is answered ERR_FAULT with no write and no other change. -/
def Obligations.EveryRequestInFaultAnswersErrFault : Prop :=
  ∀ (s : State) (i : Instr), s.st = .fault →
    ∃ t, exec i s = .next t ∧
      t = { s with
        lastResp := .errFault, rsp := some .errFault, events := s.events ++ [.resp .errFault],
        req := t.req, freeCount := t.freeCount }

/-- R82: the meaning of the decoded instruction is what the dispatch of the undecoded word does, in READY and in
FAULT. -/
def Obligations.MeaningsAgreeWithDispatchByWord : Prop :=
  ∀ (s : State) (w : ReqWord), s.st = .ready ∨ s.st = .fault →
    exec (decode w) s = .next (dispatchWord w s)

/-- R78, R82, R83, R117: a request with a list, whatever the adapter answers, comes to what running its list at once
comes to: the events of the bus are those of the list, up to its end or to the first failed write, then the one
response; `ST` is READY; the shadow of its class has its new value; nothing else has changed, but that `REQ` is
unspecified again. That `ACT` and `AIX` keep their last values in READY is the model's choice (log entry 16). -/
def Obligations.RequestRunRefinesListRun : Prop :=
  ∀ (s : State) (w : ReqWord) (queue : List ReqWord) (l : List Action) (r : ListRun),
    s.Quiet → s.st = .ready → s.hostQueue = w :: queue → requestList s.pinMap s.bl w = some l →
    runList s.cfgAddr l s.answers = some r →
    let resp : RespCode := if r.finished then .ok else .errTransport
    let s1 := if opOf w = 0b00 then shadowWrite (argOf w) s else s
    ∃ n t, Host.Core.run Sys2Proof.core n s = .next t ∧
      t = { s1 with
        act := l, aix := r.index, tmr := t.tmr, answers := r.left, hostQueue := queue,
        lastResp := resp, rsp := some resp, events := s.events ++ r.events ++ [.resp resp],
        req := t.req, freeCount := t.freeCount }

/-! ## Encoding -/

/-- Decoding the word of a well-formed instruction gives the instruction back, every operand at every value. -/
def Obligations.DecodeEncodeRoundTrip : Prop :=
  ∀ i : Instr, i.wf = true → decode (encode i) = i

/-- Every one of the 1024 words decodes to a well-formed instruction, and encoding that gives the word back. -/
def Obligations.EncodeDecodeRoundTrip : Prop :=
  ∀ w : ReqWord, (decode w).wf = true ∧ encode (decode w) = w

/-- R55: exactly one row of the opcode table matches a word, and it is the row of the decoded instruction. The counts of
the legal words of each operation, and of the illegal words (the spec marks the
counts as its own derivation from R49 and R50). -/
def Obligations.OneTableRowMatchesTheDecodedWord : Prop :=
  (∀ w : ReqWord, (opcodeTable.filter (·.matchesWord w)).map (·.mnemonic) = [(decode w).mnemonic]) ∧
  let words := (List.range 1024).map (BitVec.ofNat 10)
  (words.filter fun w => !illegal w && opOf w == 0b00).length = 239 ∧
  (words.filter fun w => !illegal w && opOf w == 0b01).length = 256 ∧
  (words.filter fun w => !illegal w && opOf w == 0b10).length = 2 ∧
  (words.filter fun w => !illegal w && opOf w == 0b11).length = 0 ∧
  (words.filter illegal).length = 527

/-- R50, R51: the class of every command byte, said by ranges of its value (the spec marks R51 as derived from R50). -/
def Obligations.ClassIsTheMostSignificantOne : Prop :=
  ∀ v : Byte,
    (cls v = .none ↔ v.toNat = 0) ∧ (cls v = .clear ↔ v.toNat = 1) ∧
    (cls v = .home ↔ 2 ≤ v.toNat ∧ v.toNat < 4) ∧ (cls v = .entryModeSet ↔ 4 ≤ v.toNat ∧ v.toNat < 8) ∧
    (cls v = .displayControl ↔ 8 ≤ v.toNat ∧ v.toNat < 16) ∧ (cls v = .cursorShift ↔ 16 ≤ v.toNat ∧ v.toNat < 32) ∧
    (cls v = .functionSet ↔ 32 ≤ v.toNat ∧ v.toNat < 64) ∧ (cls v = .setCgramAddr ↔ 64 ≤ v.toNat ∧ v.toNat < 128) ∧
    (cls v = .setDdramAddr ↔ 128 ≤ v.toNat)

/-- Some words written out from the patterns of R55 decode to the instructions they stand for. -/
def Obligations.WrittenOutWordsDecode : Prop :=
  decode 0b0000000001 = .cmdClear ∧ decode 0b0000000011 = .cmdHome 1 ∧
  decode 0b0000000110 = .cmdEntryModeSet 1 0 ∧ decode 0b0000001100 = .cmdDisplayControl 1 0 0 ∧
  decode 0b0000011000 = .cmdCursorShift 1 0 0 ∧ decode 0b0000101100 = .cmdFunctionSet 1 1 0 ∧
  decode 0b0001001000 = .cmdSetCgramAddr 8 ∧ decode 0b0011000000 = .cmdSetDdramAddr 0x40 ∧
  decode 0b0101000001 = .data 0x41 ∧ decode 0b1000000001 = .setbl 1 ∧
  decode 0b0000000000 = .illegalCmdZero ∧ decode 0b0000111000 = .illegalFunctionSetDl1 8 ∧
  decode 0b1000000010 = .illegalSetbl 1 0 ∧ decode 0b1111111111 = .illegalOp 0xFF

/-! ## Lists and bytes -/

/-- R36, R37, R76, R77: `send` is two nibble transfers, high nibble first, each laid out line by line. -/
def Obligations.SendIsTwoNibbleTransfersHighFirst : Prop :=
  ∀ (pm : PinMap) (bl : Bit) (v : Byte) (m : Bit), send pm bl v m = byteForm pm bl v m

/-- R80, which the spec marks as derived from R76 and R77: the counts of `writeNibble` and `send`, whatever the byte, the
mode and the backlight. -/
def Obligations.NibbleAndSendCounts : Prop :=
  ∀ (pm : PinMap) (bl : Bit) (v : Byte) (m : Bit),
    (writeCount (writeNibble pm bl v) = 3 ∧ waitCount (writeNibble pm bl v) = 2 ∧
      (writeNibble pm bl v).length = 5 ∧ waitTotal (writeNibble pm bl v) = 51) ∧
    (writeCount (send pm bl v m) = 6 ∧ waitCount (send pm bl v m) = 4 ∧
      (send pm bl v m).length = 10 ∧ waitTotal (send pm bl v m) = 102)

/-- R109: the initialization list as a function of `BL` and the configuration, and in full for two rows or more and
5x8 dots, with the default masks (the spec marks it as derived from R100 to R107). -/
def Obligations.InitListInFull : Prop :=
  (∀ (pm : PinMap) (bl n f : Bit),
    let backlightOnly : Byte := if bl = 1 then blMask pm else 0
    let functionSet : Byte := 0b0010#4 ++ (n ++ (f ++ 0#2))
    initList pm bl n f =
      List.flatten [
        [.write backlightOnly, .wait 20000],
        nibbleForm pm bl 0x3 0, [.wait 5000], nibbleForm pm bl 0x3 0, [.wait 5000],
        nibbleForm pm bl 0x3 0, [.wait 1000],
        nibbleForm pm bl 0x2 0, [.wait 1000],
        byteForm pm bl functionSet 0,
        byteForm pm bl 0x0C 0,
        byteForm pm bl 0x01 0, [.wait 2000],
        byteForm pm bl 0x06 0]) ∧
  initList defaultPinMap 1 1 0 =
    List.flatten [
      [.write 0x08, .wait 20000],
      [.write 0x38, .write 0x3C, .wait 1, .write 0x38, .wait 50, .wait 5000],
      [.write 0x38, .write 0x3C, .wait 1, .write 0x38, .wait 50, .wait 5000],
      [.write 0x38, .write 0x3C, .wait 1, .write 0x38, .wait 50, .wait 1000],
      [.write 0x28, .write 0x2C, .wait 1, .write 0x28, .wait 50, .wait 1000],
      [.write 0x28, .write 0x2C, .wait 1, .write 0x28, .wait 50, .write 0x88, .write 0x8C, .wait 1, .write 0x88, .wait 50],
      [.write 0x08, .write 0x0C, .wait 1, .write 0x08, .wait 50, .write 0xC8, .write 0xCC, .wait 1, .write 0xC8, .wait 50],
      [.write 0x08, .write 0x0C, .wait 1, .write 0x08, .wait 50, .write 0x18, .write 0x1C, .wait 1, .write 0x18, .wait 50,
        .wait 2000],
      [.write 0x08, .write 0x0C, .wait 1, .write 0x08, .wait 50, .write 0x68, .write 0x6C, .wait 1, .write 0x68, .wait 50]]

/-- R110: the counts of the initialization list, for every configuration: 4 single nibble transfers in its first 26
actions, and 8 in the rest (the spec marks them as derived from R109 and R80). -/
def Obligations.InitListCounts : Prop :=
  ∀ (pm : PinMap) (bl n f : Bit),
    (initList pm bl n f).length = 67 ∧ writeCount (initList pm bl n f) = 37 ∧
    waitCount (initList pm bl n f) = 30 ∧ waitTotal (initList pm bl n f) = 34612 ∧
    (pm.wf = true →
      pulseCount pm ((initList pm bl n f).take 26) = 4 ∧ pulseCount pm ((initList pm bl n f).drop 26) = 8)

/-- R140: the writes, waits, actions and minimum waiting of every list, of the requests with none, and of CREATECHAR
(the spec marks it as derived from R80 and R110). -/
def Obligations.ListCountsAndMinimumWaits : Prop :=
  ∀ (pm : PinMap) (bl : Bit),
    let counts := fun l : List Action => (writeCount l, waitCount l, l.length, waitTotal l)
    (∀ n : Byte, counts (writeNibble pm bl n) = (3, 2, 5, 51)) ∧
    (∀ n f : Bit, counts (initList pm bl n f) = (37, 30, 67, 34612)) ∧
    (∀ w : ReqWord, illegal w = false → opOf w = 0b00 →
      (requestList pm bl w).map counts =
        some (if cls (argOf w) = .clear ∨ cls (argOf w) = .home then (6, 5, 11, 2102) else (6, 4, 10, 102))) ∧
    (∀ w : ReqWord, opOf w = 0b01 → (requestList pm bl w).map counts = some (6, 4, 10, 102)) ∧
    (∀ w : ReqWord, opOf w = 0b10 ∨ illegal w = true → requestList pm bl w = none) ∧
    ∀ (cols rows idx : Nat) (b0 b1 b2 b3 b4 b5 b6 b7 : Byte),
      let lists := (expand cols rows (.createChar idx b0 b1 b2 b3 b4 b5 b6 b7)).map
        fun w => (requestList pm bl w).getD []
      lists.length = 9 ∧ writeCount lists.flatten = 54 ∧ waitTotal lists.flatten = 918

/-- R132, R133: in every list the block runs, EN is high for at least 1 us and at least 50 us pass after it falls. -/
def Obligations.EnablePulsesAreTimed : Prop :=
  ∀ (pm : PinMap) (bl : Bit), pm.wf = true →
    (∀ n f : Bit, pulsesTimed pm (initList pm bl n f) = true) ∧
    ∀ (w : ReqWord) (l : List Action), requestList pm bl w = some l → pulsesTimed pm l = true

/-- R134: a request's list ends with the wait of 2 ms exactly when the word is a CMD of class CLEAR or HOME, and in the
initialization list it follows the clear command of step 7. -/
def Obligations.LongWaitExactlyAfterClearAndHome : Prop :=
  ∀ (pm : PinMap) (bl : Bit),
    (∀ (w : ReqWord) (l : List Action), requestList pm bl w = some l →
      (l.getLast? = some (.wait 2000) ↔ opOf w = 0b00 ∧ (cls (argOf w) = .clear ∨ cls (argOf w) = .home))) ∧
    ∀ n f : Bit, ((initList pm bl n f).drop 46).take 11 = byteForm pm bl 0x01 0 ++ [.wait 2000]

/-- R38: every request's list holds two nibble transfers. -/
def Obligations.NibbleTransfersComeInPairs : Prop :=
  ∀ (pm : PinMap) (bl : Bit) (w : ReqWord) (l : List Action), pm.wf = true → requestList pm bl w = some l →
    pulseCount pm l = 2

/-- R26: every wait the block uses is at most 20000 us, so the 16-bit timer holds it. -/
def Obligations.WaitsFitTheTimer : Prop :=
  ∀ (pm : PinMap) (bl : Bit) (t : Nat),
    (∀ n f : Bit, Action.wait t ∈ initList pm bl n f → t ≤ 20000 ∧ (BitVec.ofNat 16 t).toNat = t) ∧
    ∀ (w : ReqWord) (l : List Action), requestList pm bl w = some l → Action.wait t ∈ l →
      t ≤ 20000 ∧ (BitVec.ofNat 16 t).toNat = t

/-- R79: a conforming sequence has the same writes and responses in the same order, each after at least as much
waiting. -/
def Obligations.ConformanceOnlyLengthensTheGaps : Prop :=
  ∀ a b : List Event, Conforms a b →
    List.Forall₂ (fun x y => x.1 ≤ y.1 ∧ x.2 = y.2) (gaps 0 a).1 (gaps 0 b).1 ∧ (gaps 0 a).2 ≤ (gaps 0 b).2

/-! ## The executor and the status word -/

/-- R78, R79, R83, R111: a wait in progress ends with one event. Before the list's end `AIX` moves on by one and the list
goes on, with nothing else changed but the timer and the shadow of an init step that is reached (R108). If it is the
list's last action, the list is finished: in EXEC the response is OK and `ST` is READY, in INIT `ST` is READY with no
response. The number of steps, one for each count left and one more, is the model's (log entry 8), and so is that `ACT`
and `AIX` keep their last values in READY and `REQ` its value in INIT (log entries 16, 7). -/
def Obligations.EveryWaitEndsWithOneEvent : Prop :=
  ∀ (s : State) (t : Nat), s.Quiet → s.act[s.aix]? = some (.wait t) →
    ((s.st = .init ∨ s.st = .exec) → s.aix + 1 < s.act.length →
      ∃ u, Host.Core.run Sys2Proof.core (s.tmr.toNat + 1) s = .next u ∧
        u = { s with
          aix := s.aix + 1, tmr := u.tmr, func := u.func, dctl := u.dctl, emode := u.emode,
          events := s.events ++ [.wait t] }) ∧
    (s.st = .exec → s.act.length ≤ s.aix + 1 →
      ∃ u, Host.Core.run Sys2Proof.core (s.tmr.toNat + 1) s = .next u ∧
        u = { s with
          st := .ready, aix := s.aix + 1, tmr := 0, lastResp := .ok, rsp := some .ok,
          events := s.events ++ [.wait t, .resp .ok], req := u.req, freeCount := u.freeCount }) ∧
    (s.st = .init → s.act.length ≤ s.aix + 1 →
      Host.Core.run Sys2Proof.core (s.tmr.toNat + 1) s = .next { s with
        st := .ready, aix := s.aix + 1, tmr := 0, events := s.events ++ [.wait t] })

/-- R35, R78, R83, R111, R128: a write completes with the adapter's answer, with one event to `CFG_ADDR`, and while there
is no answer the block holds. After OK, before the list's end, `AIX` moves on by one and the list goes on, with nothing
else changed but the timer and the shadow of an init step that is reached (R108). If the write is the list's last action,
the list is finished: in EXEC the response is OK and `ST` is READY, in INIT `ST` is READY with no response. That `ACT` and
`AIX` keep their last values in READY and `REQ` its value in INIT is the model's (log entries 16, 7). -/
def Obligations.WriteCompletesWithItsAnswer : Prop :=
  ∀ (s : State) (b : Byte), s.Quiet → s.act[s.aix]? = some (.write b) →
    ((s.st = .init ∨ s.st = .exec) → s.answers = [] → step s = .next s) ∧
    ∀ rest, s.answers = .ok :: rest →
      ((s.st = .init ∨ s.st = .exec) → s.aix + 1 < s.act.length →
        ∃ u, step s = .next u ∧
          u = { s with
            aix := s.aix + 1, tmr := u.tmr, func := u.func, dctl := u.dctl, emode := u.emode, answers := rest,
            events := s.events ++ [.write s.cfgAddr b .ok] }) ∧
      (s.st = .exec → s.act.length ≤ s.aix + 1 →
        ∃ u, step s = .next u ∧
          u = { s with
            st := .ready, aix := s.aix + 1, answers := rest, lastResp := .ok, rsp := some .ok,
            events := s.events ++ [.write s.cfgAddr b .ok, .resp .ok], req := u.req, freeCount := u.freeCount }) ∧
      (s.st = .init → s.act.length ≤ s.aix + 1 →
        step s = .next { s with
          st := .ready, aix := s.aix + 1, answers := rest, events := s.events ++ [.write s.cfgAddr b .ok] })

/-- R117: a write answered ERR stops the list at once. In EXEC the response is ERR_TRANSPORT and `ST` is READY; in INIT
there is no response, `ST` is FAULT and `LAST_RESP` is ERR_TRANSPORT (R112); nothing else changes. That `ACT` and `AIX`
stay at the failed write in READY and FAULT, and `REQ` keeps its value from INIT to FAULT, is the model's choice (log
entries 16, 7). -/
def Obligations.TransportErrorAbortsPrecisely : Prop :=
  ∀ (s : State) (b : Byte) (rest : List BusAnswer), s.Quiet → s.act[s.aix]? = some (.write b) →
    s.answers = .err :: rest →
    (s.st = .exec → ∃ t, step s = .next t ∧
      t = { s with
        st := .ready, answers := rest, lastResp := .errTransport, rsp := some .errTransport,
        events := s.events ++ [.write s.cfgAddr b .err, .resp .errTransport], req := t.req, freeCount := t.freeCount }) ∧
    (s.st = .init → step s = .next { s with
      st := .fault, answers := rest, lastResp := .errTransport, events := s.events ++ [.write s.cfgAddr b .err] })

/-- R28: the fields of the status word. -/
def Obligations.StatusWordLayout : Prop :=
  ∀ s : State,
    (status s).extractLsb' 0 2 =
      (match s.st with | .init => 0 | .ready => 1 | .exec => 2 | .fault => 3 : BitVec 2) ∧
    (status s).extractLsb' 2 2 =
      (match s.lastResp with | .ok => 0 | .errTransport => 1 | .errIllegal => 2 | .errFault => 3 : BitVec 2) ∧
    (status s).extractLsb' 4 1 = s.bl ∧ (status s).extractLsb' 5 3 = s.dctl ∧
    (status s).extractLsb' 8 2 = s.emode ∧ (status s).extractLsb' 10 3 = s.func ∧
    (status s).extractLsb' 13 3 = 0

/-! ## One step of the machine -/

/-- R32, R81: when a word is accepted, the step is the meaning of the instruction `REQ` decodes to, in the state with
the word latched and off the host's queue (and the next pin event, if there is one, nearer by one step). -/
def Obligations.StepRunsTheAcceptedRequest : Prop :=
  ∀ (s : State) (w : ReqWord) (queue : List ReqWord),
    s.rst = false → dueInput s = none → s.rsp = none → (s.st = .ready ∨ s.st = .fault) → s.hostQueue = w :: queue →
    step s = exec (decode w) { tickInputs s with req := w, hostQueue := queue }

/-- The word that `withFetchWord` places is what the very next step runs: the model's own placing (log entry 12). -/
def Obligations.PlacedWordIsRunNext : Prop :=
  ∀ (s : State) (w : ReqWord), ∃ t, t.st ≠ .init ∧ t.st ≠ .exec ∧ t.hostQueue = s.hostQueue ∧ t.req = w ∧
    step (s.withFetchWord 16 w.toNat) = exec (decode w) t

/-- R81: a word on the host's queue leaves it only when the request port is ready. -/
def Obligations.RequestsAreHeldUntilReady : Prop :=
  ∀ s t : State, step s = .next t → reqReady s = false → ∃ added, t.hostQueue = s.hostQueue ++ added

/-- R32, R127: a response pulse lasts one step (log entry 10), and a ready block with no request presented issues
nothing and holds its state. -/
def Obligations.BetweenRequestsTheBlockIsIdle : Prop :=
  ∀ s : State, s.rst = false → dueInput s = none → (s.st = .ready ∨ s.st = .fault) →
    busOut s = none ∧
    (∀ c, s.rsp = some c → step s = .next { tickInputs s with rsp := none }) ∧
    (s.rsp = none → s.hostQueue = [] → step s = .next (tickInputs s))

/-- R16: without a reset, `AIX` stays, or goes on by 1 while a list runs, or is 0 where a list starts. -/
def Obligations.IndexNeverJumps : Prop :=
  ∀ s t : State, step s = .next t → ¬ s.resetDue →
    t.aix = s.aix ∨ ((s.st = .init ∨ s.st = .exec) ∧ t.aix = s.aix + 1 ∧ t.act = s.act) ∨
      (s.st = .ready ∧ t.st = .exec ∧ t.aix = 0)

/-- No step faults, and a step is refused exactly where the pin event due releases an asserted reset with zero rows (R6,
D21, U6; the model's refusal, log entry 14). -/
def Obligations.EveryStepGoesOn : Prop :=
  (∀ s : State, (∃ t, step s = .next t) ∨
    (step s = .refused .cfgRowsZero ∧ s.inputDue .releaseReset ∧ s.rst = true ∧ s.cfgRowsPin = 0)) ∧
  ∀ s : State, s.inputDue .releaseReset → s.rst = true → s.cfgRowsPin = 0 → step s = .refused .cfgRowsZero

/-- R25: the transitions of `ST`, and no others. -/
def Obligations.SequencerTransitions : Prop :=
  ∀ s t : State, step s = .next t → t.st ≠ s.st →
    (s.resetDue ∧ t.st = .init) ∨
    (s.st = .init ∧ t.st = .ready ∧ s.act.length ≤ s.aix + 1) ∨
    (s.st = .init ∧ t.st = .fault ∧ s.answers.head? = some .err) ∨
    (s.st = .ready ∧ t.st = .exec ∧ t.act ≠ [] ∧ ∃ w, s.acceptsNext w) ∨
    (s.st = .exec ∧ t.st = .ready ∧ (s.act.length ≤ s.aix + 1 ∨ s.answers.head? = some .err))

/-- R119: FAULT is entered only from INIT. In FAULT every request accepted is answered ERR_FAULT at once; without a
reset `ST`, `BL`, the shadows and the configuration stay, there is no bus traffic, and nothing is recorded but that
answer. -/
def Obligations.FaultIsStickyWithoutReset : Prop :=
  (∀ s t : State, step s = .next t → t.st = .fault → s.st = .fault ∨ s.st = .init) ∧
  (∀ s t : State, s.st = .fault → step s = .next t → ¬ s.resetDue →
    t.st = .fault ∧ t.bl = s.bl ∧ t.func = s.func ∧ t.dctl = s.dctl ∧ t.emode = s.emode ∧ t.cfgAddr = s.cfgAddr ∧
    t.cfgN = s.cfgN ∧ t.cfgF = s.cfgF ∧ t.answers.take s.answers.length = s.answers ∧ busOut s = none ∧
    (t.events = s.events ∧ t.lastResp = s.lastResp ∨
      t.events = s.events ++ [.resp .errFault] ∧ t.lastResp = .errFault ∧ ∃ w, s.acceptsNext w)) ∧
  ∀ (s : State) (w : ReqWord), s.st = .fault → s.acceptsNext w →
    ∃ t, step s = .next t ∧ t.st = .fault ∧ t.rsp = some .errFault ∧ t.lastResp = .errFault ∧
      t.events = s.events ++ [.resp .errFault]

/-- R90: SETBL accepted in READY is the only request that changes `BL`; without it only a reset does. -/
def Obligations.OnlySetblAndResetChangeBacklight : Prop :=
  ∀ s t : State, step s = .next t → t.bl ≠ s.bl →
    s.resetDue ∨ (s.st = .ready ∧ ∃ w, s.acceptsNext w ∧ decode w = .setbl t.bl)

/-- R21: a shadow changes only at its init step, at a CMD of its own class accepted in READY, or at a reset. -/
def Obligations.ShadowsChangeOnlyAtTheirClass : Prop :=
  ∀ s t : State, step s = .next t → ¬ s.resetDue →
    (t.func ≠ s.func → (s.st = .init ∧ t.aix = 26 ∧ t.func = 0#1 ++ (s.cfgN ++ s.cfgF)) ∨
      ∃ w n f x, s.st = .ready ∧ s.acceptsNext w ∧ decode w = .cmdFunctionSet n f x ∧ t.func = 0#1 ++ (n ++ f)) ∧
    (t.dctl ≠ s.dctl → (s.st = .init ∧ t.aix = 36 ∧ t.dctl = 0b100) ∨
      ∃ w d c b, s.st = .ready ∧ s.acceptsNext w ∧ decode w = .cmdDisplayControl d c b ∧ t.dctl = d ++ (c ++ b)) ∧
    (t.emode ≠ s.emode → (s.st = .init ∧ t.aix = 57 ∧ t.emode = 0b10) ∨
      ∃ w i sh, s.st = .ready ∧ s.acceptsNext w ∧ decode w = .cmdEntryModeSet i sh ∧ t.emode = i ++ sh)

/-- R18, R19, R46: a release of an asserted reset, with at least one row, takes the configuration pins into the latch, and
every other step keeps the latch. That the latch is kept when reset is asserted and while it is held is the model's
choice (log entry 15). -/
def Obligations.ConfigurationIsLatchedAtRelease : Prop :=
  (∀ s : State, s.inputDue .releaseReset → s.rst = true → s.cfgRowsPin ≠ 0 →
    ∃ t, step s = .next t ∧ t.cfgAddr = s.cfgAddrPin ∧ t.cfgF = s.cfgFontPin ∧
      t.cfgN = if 2 ≤ s.cfgRowsPin.toNat then 1 else 0) ∧
  ∀ s t : State, step s = .next t → ¬ (s.inputDue .releaseReset ∧ s.rst = true) →
    t.cfgAddr = s.cfgAddr ∧ t.cfgN = s.cfgN ∧ t.cfgF = s.cfgF

/-- R34: the byte on the bus port goes to `CFG_ADDR`, and every bus write a step completes is that of the bus port. -/
def Obligations.BusWritesGoToCfgAddr : Prop :=
  (∀ (s : State) (addr : I2cAddr) (b : Byte), busOut s = some (addr, b) → addr = s.cfgAddr) ∧
  ∀ s t : State, step s = .next t → ∃ new, t.events = s.events ++ new ∧
    ∀ addr b r, Event.write addr b r ∈ new → addr = s.cfgAddr ∧ busOut s = some (s.cfgAddr, b)

/-- R20, R7, R36: in a state that meets the invariant, the byte on the bus port carries the backlight bit of `BL`, and
the bit no mask uses is 0. -/
def Obligations.BusBytesCarryTheBacklight : Prop :=
  ∀ (s : State) (addr : I2cAddr) (b : Byte), s.Inv → busOut s = some (addr, b) →
    addr = s.cfgAddr ∧ b &&& blMask s.pinMap = (if s.bl = 1 then blMask s.pinMap else 0) ∧
      b &&& unusedMask s.pinMap = 0

/-- R21: the shadows never change what the block does: from states that differ in them alone, a step leads to states
that differ in them alone. -/
def Obligations.ShadowsDoNotReachTheBus : Prop :=
  ∀ s1 s2 t1 : State, SameButShadows s1 s2 → step s1 = .next t1 →
    ∃ t2, step s2 = .next t2 ∧ SameButShadows t1 t2

/-- R46: while a list runs and reset stays as it is, neither the words the host presents nor the configuration pins
change what the block does. -/
def Obligations.RunningRequestIgnoresHostAndPins : Prop :=
  ∀ s1 s2 t1 : State, SameButHost s1 s2 → (s1.st = .init ∨ s1.st = .exec) → ¬ s1.resetDue → step s1 = .next t1 →
    ∃ t2, step s2 = .next t2 ∧ SameButHost t1 t2

/-! ## Reset and initialization -/

/-- R129: when reset is asserted, every register takes its reset value, no response is delivered, and the only event is
the write that was abandoned on the bus port, if there was one. That event and the kept configuration latch are the
model's choice (log entries 9, 15). -/
def Obligations.ResetAssertionStopsAtOnce : Prop :=
  ∀ (s : State) (rest : List (Nat × Input)), s.inputs = (0, .assertReset) :: rest →
    ∃ t, step s = .next t ∧
      t = { s with
        inputs := rest, rst := true, bl := 1, func := 0, dctl := 0, emode := 0, st := .init,
        act := initList s.pinMap 1 s.cfgN s.cfgF, aix := 0, tmr := 0, req := t.req, lastResp := .ok, rsp := none,
        events := s.events ++
          (match busOut s with | some (addr, b) => [.abandoned addr b] | none => []) }

/-- R129: while reset is asserted the block's state is held, no write is issued and no request is accepted. -/
def Obligations.StateIsHeldInReset : Prop :=
  ∀ s : State, s.rst = true → dueInput s = none → step s = .next (tickInputs s) ∧ busOut s = none

/-- R130: at the release of reset the configuration is sampled and the initialization list stands at its first action,
with every register at its reset value and the request port not ready. -/
def Obligations.ResetReleaseStartsInitialization : Prop :=
  ∀ (s : State) (rest : List (Nat × Input)), s.inputs = (0, .releaseReset) :: rest → s.rst = true →
    s.cfgRowsPin ≠ 0 →
    let n : Bit := if 2 ≤ s.cfgRowsPin.toNat then 1 else 0
    ∃ t, step s = .next t ∧
      t = { s with
        inputs := rest, rst := false, cfgAddr := s.cfgAddrPin, cfgN := n, cfgF := s.cfgFontPin,
        bl := 1, func := 0, dctl := 0, emode := 0, st := .init,
        act := initList s.pinMap 1 n s.cfgFontPin, aix := 0, tmr := 0, req := t.req, lastResp := .ok, rsp := none } ∧
      reqReady t = false

/-- R108 to R112: initialization, whatever the adapter answers, comes to what running the initialization list at once
comes to. At its end `ST` is READY with no response, and the request port is ready; at the first failed write `ST` is
FAULT, with the shadows written that R108 had reached. That `ACT` and `AIX` keep their last values in READY and FAULT is
the model's choice (log entry 16), and so is that `REQ` keeps its value from reset (log entry 7). -/
def Obligations.InitializationRunRefinesListRun : Prop :=
  ∀ (pm : PinMap) (addr : I2cAddr) (rows : BitVec 8) (font : Bit) (h : rows ≠ 0) (queue : List ReqWord) (as : List BusAnswer)
    (r : ListRun),
    pm.wf = true →
    let s := { State.resetWith pm addr rows font h with hostQueue := queue, answers := as }
    runList addr s.act as = some r →
    ∃ n t, Host.Core.run Sys2Proof.core n s = .next t ∧
      t = { s with
        st := if r.finished then .ready else .fault
        lastResp := if r.finished then .ok else .errTransport
        func := if 26 ≤ r.index then 0#1 ++ ((if 2 ≤ rows.toNat then 1 else 0 : Bit) ++ font) else 0
        dctl := if 36 ≤ r.index then 0b100 else 0
        emode := if 57 ≤ r.index then 0b10 else 0
        aix := r.index, tmr := 0, answers := r.left, events := r.events } ∧
      (r.finished = true → reqReady t = true)

/-- R31, R99: what the release of reset leaves, for every configuration of the domain (R6). -/
def Obligations.ResetValues : Prop :=
  ∀ (pm : PinMap) (addr : I2cAddr) (rows : BitVec 8) (font : Bit) (h : rows ≠ 0),
    let s := State.resetWith pm addr rows font h
    s.cfgAddr = addr ∧ s.cfgN = (if 2 ≤ rows.toNat then 1 else 0) ∧ s.cfgF = font ∧ s.bl = 1 ∧ s.func = 0b000 ∧
    s.dctl = 0b000 ∧ s.emode = 0b00 ∧ s.st = .init ∧ s.act = initList pm 1 s.cfgN s.cfgF ∧ s.aix = 0 ∧ s.tmr = 0 ∧
    s.lastResp = .ok ∧ reqReady s = false ∧ s.rsp = none

/-- The invariant holds right after reset, for every configuration of the domain (R6). -/
def Obligations.InvariantHoldsAtReset : Prop :=
  State.reset.Inv ∧
  ∀ (pm : PinMap) (addr : I2cAddr) (rows : BitVec 8) (font : Bit) (h : rows ≠ 0),
    pm.wf = true → (State.resetWith pm addr rows font h).Inv

/-- Every step keeps the invariant. -/
def Obligations.EveryStepKeepsTheInvariant : Prop :=
  ∀ s t : State, s.Inv → step s = .next t → t.Inv

/-! ## The assembler -/

/-- R62, R63, R64: DISPCTL, ENTRY and SHIFT make the words of their classes with their bits in place. -/
def Obligations.FlagPseudoInstructionsExpand : Prop :=
  ∀ a b c : Bit,
    decode (expandDispctl a b c) = .cmdDisplayControl a b c ∧ decode (expandEntry a b) = .cmdEntryModeSet a b ∧
    decode (expandShift a b) = .cmdCursorShift a b 0

/-- R60, R61, R68 to R71: the expansions of CLEAR, HOME, CREATECHAR, PRINT, BACKLIGHT and NOBACKLIGHT, decoded. -/
def Obligations.RequestPseudoInstructionsExpand : Prop :=
  ∀ cols rows : Nat,
    (expand cols rows .clear).map decode = [.cmdClear] ∧ (expand cols rows .home).map decode = [.cmdHome 0] ∧
    (expand cols rows .backlight).map decode = [.setbl 1] ∧ (expand cols rows .noBacklight).map decode = [.setbl 0] ∧
    (∀ codes : List Byte, (expand cols rows (.print codes)).map decode = codes.map .data) ∧
    ∀ (idx : Nat) (b0 b1 b2 b3 b4 b5 b6 b7 : Byte),
      (expand cols rows (.createChar idx b0 b1 b2 b3 b4 b5 b6 b7)).map decode =
        .cmdSetCgramAddr (BitVec.ofNat 6 (8 * (idx % 8))) :: [b0, b1, b2, b3, b4, b5, b6, b7].map .data

/-- R65, R67: SETDDRAM keeps the low seven bits of its address, and SETCGRAM the low three bits of its index
(the spec marks R65's equation as derived from R50). -/
def Obligations.AddressPseudoInstructionsExpand : Prop :=
  ∀ a : Nat,
    decode (expandSetDdram a) = .cmdSetDdramAddr (BitVec.ofNat 7 a) ∧
    decode (expandSetCgram a) = .cmdSetCgramAddr (BitVec.ofNat 6 (8 * (a % 8)))

/-- R66: SETCURSOR addresses the row base plus the column, with the row clamped to the last row and to 3. -/
def Obligations.SetCursorClampsTheRow : Prop :=
  ∀ cols rows col row : Nat, 1 ≤ rows →
    ∃ r, r ≤ row ∧ r ≤ rows - 1 ∧ r ≤ 3 ∧ (r = row ∨ r = rows - 1 ∨ r = 3) ∧
      decode (expandSetCursor cols rows col row) =
        .cmdSetDdramAddr (BitVec.ofNat 7 (([0x00, 0x40, 0x00 + cols, 0x40 + cols][r]?).getD 0 + col))

/-- R114: no pseudo-instruction expands to an illegal word. -/
def Obligations.PseudoInstructionsAreLegal : Prop :=
  ∀ (cols rows : Nat) (p : Pseudo) (w : ReqWord), w ∈ expand cols rows p → illegal w = false
end

