-- ==== Sys2Proof/Laws/Codec.lean ====
section
/-! SUPPORT. What the operand assembly and the nibble packer make, line by line. -/

namespace Sys2Proof.Machine

open Sys2Proof.Config

/-- R52: the nibble byte of the high half, as fields side by side. -/
theorem hi_eq_fields : ∀ (v : Byte) (m : Bit), hi v m = v.extractLsb' 4 4 ++ (0#3 ++ m) := by decide

/-- R52: the nibble byte of the low half, as fields side by side. -/
theorem lo_eq_fields : ∀ (v : Byte) (m : Bit), lo v m = v.extractLsb' 0 4 ++ (0#3 ++ m) := by decide

/-- R53: clearing EN leaves a byte whose bits 3..1 are 0 as it is. -/
theorem clear_en (pm : PinMap) (n : Byte) (h : n &&& 0x0E = 0) : n &&& ~~~(enMask pm) = n := by
  have key : ∀ (l : Line) (n : Byte), n &&& 0x0E = 0 → n &&& ~~~(lineMask l) = n := by
    intro l; cases l <;> decide
  exact key pm.en n h

/-- R52: bits 3..1 of a nibble byte are 0. -/
theorem nibble_bytes_low_bits : ∀ (v : Byte) (m : Bit), hi v m &&& 0x0E = 0 ∧ lo v m &&& 0x0E = 0 := by decide

/-- R53: the third byte of the high nibble transfer is the first. -/
@[simp] theorem hi_clear_en (pm : PinMap) (v : Byte) (m : Bit) : hi v m &&& ~~~(enMask pm) = hi v m :=
  clear_en pm _ (nibble_bytes_low_bits v m).1

/-- R53: the third byte of the low nibble transfer is the first. -/
@[simp] theorem lo_clear_en (pm : PinMap) (v : Byte) (m : Bit) : lo v m &&& ~~~(enMask pm) = lo v m :=
  clear_en pm _ (nibble_bytes_low_bits v m).2

/-- R76, the second form: one nibble transfer in full. -/
theorem writeNibble_eq (pm : PinMap) (bl : Bit) (n : Byte) :
    writeNibble pm bl n =
      [.write (n ||| blTerm pm bl), .write (n ||| enMask pm ||| blTerm pm bl), .wait 1,
       .write ((n &&& ~~~(enMask pm)) ||| blTerm pm bl), .wait 50] := rfl

/-- R84: the list of a command byte is its send and, for CLEAR and HOME, the long wait. -/
theorem cmdList_eq (pm : PinMap) (bl : Bit) (v : Byte) :
    cmdList pm bl v = send pm bl v 0 ++ (if cls v = .clear ∨ cls v = .home then [.wait 2000] else []) := rfl

/-- R109: the four single nibble transfers come first, in 26 actions. -/
theorem initList_split (pm : PinMap) (bl n f : Bit) :
    initList pm bl n f =
      (initStep1 pm bl ++ initStep2 pm bl ++ initStep3 pm bl ++ initStep4 pm bl) ++
        (initStep5 pm bl n f ++ initStep6 pm bl ++ initStep7 pm bl ++ initStep8 pm bl) := by
  simp only [initList, List.append_assoc]

end Sys2Proof.Machine
end

