-- ==== Sys2Proof/Laws/State.lean ====
section
/-! SUPPORT. What each named update of the state does to each field: one lemma a field, for the simp set. -/

namespace Sys2Proof.Machine

open Sys2Proof.Config

variable (s : State)

@[simp] theorem logEvent_pinMap (e : Event) : (logEvent e s).pinMap = s.pinMap := rfl
@[simp] theorem logEvent_cfgAddr (e : Event) : (logEvent e s).cfgAddr = s.cfgAddr := rfl
@[simp] theorem logEvent_cfgN (e : Event) : (logEvent e s).cfgN = s.cfgN := rfl
@[simp] theorem logEvent_cfgF (e : Event) : (logEvent e s).cfgF = s.cfgF := rfl
@[simp] theorem logEvent_bl (e : Event) : (logEvent e s).bl = s.bl := rfl
@[simp] theorem logEvent_func (e : Event) : (logEvent e s).func = s.func := rfl
@[simp] theorem logEvent_dctl (e : Event) : (logEvent e s).dctl = s.dctl := rfl
@[simp] theorem logEvent_emode (e : Event) : (logEvent e s).emode = s.emode := rfl
@[simp] theorem logEvent_st (e : Event) : (logEvent e s).st = s.st := rfl
@[simp] theorem logEvent_act (e : Event) : (logEvent e s).act = s.act := rfl
@[simp] theorem logEvent_aix (e : Event) : (logEvent e s).aix = s.aix := rfl
@[simp] theorem logEvent_tmr (e : Event) : (logEvent e s).tmr = s.tmr := rfl
@[simp] theorem logEvent_req (e : Event) : (logEvent e s).req = s.req := rfl
@[simp] theorem logEvent_lastResp (e : Event) : (logEvent e s).lastResp = s.lastResp := rfl
@[simp] theorem logEvent_rsp (e : Event) : (logEvent e s).rsp = s.rsp := rfl
@[simp] theorem logEvent_rst (e : Event) : (logEvent e s).rst = s.rst := rfl
@[simp] theorem logEvent_cfgAddrPin (e : Event) : (logEvent e s).cfgAddrPin = s.cfgAddrPin := rfl
@[simp] theorem logEvent_cfgRowsPin (e : Event) : (logEvent e s).cfgRowsPin = s.cfgRowsPin := rfl
@[simp] theorem logEvent_cfgFontPin (e : Event) : (logEvent e s).cfgFontPin = s.cfgFontPin := rfl
@[simp] theorem logEvent_hostQueue (e : Event) : (logEvent e s).hostQueue = s.hostQueue := rfl
@[simp] theorem logEvent_answers (e : Event) : (logEvent e s).answers = s.answers := rfl
@[simp] theorem logEvent_inputs (e : Event) : (logEvent e s).inputs = s.inputs := rfl
@[simp] theorem logEvent_events (e : Event) : (logEvent e s).events = s.events ++ [e] := rfl
@[simp] theorem logEvent_freeCount (e : Event) : (logEvent e s).freeCount = s.freeCount := rfl

@[simp] theorem endPulse_pinMap : (endPulse s).pinMap = s.pinMap := rfl
@[simp] theorem endPulse_cfgAddr : (endPulse s).cfgAddr = s.cfgAddr := rfl
@[simp] theorem endPulse_cfgN : (endPulse s).cfgN = s.cfgN := rfl
@[simp] theorem endPulse_cfgF : (endPulse s).cfgF = s.cfgF := rfl
@[simp] theorem endPulse_bl : (endPulse s).bl = s.bl := rfl
@[simp] theorem endPulse_func : (endPulse s).func = s.func := rfl
@[simp] theorem endPulse_dctl : (endPulse s).dctl = s.dctl := rfl
@[simp] theorem endPulse_emode : (endPulse s).emode = s.emode := rfl
@[simp] theorem endPulse_st : (endPulse s).st = s.st := rfl
@[simp] theorem endPulse_act : (endPulse s).act = s.act := rfl
@[simp] theorem endPulse_aix : (endPulse s).aix = s.aix := rfl
@[simp] theorem endPulse_tmr : (endPulse s).tmr = s.tmr := rfl
@[simp] theorem endPulse_req : (endPulse s).req = s.req := rfl
@[simp] theorem endPulse_lastResp : (endPulse s).lastResp = s.lastResp := rfl
@[simp] theorem endPulse_rsp : (endPulse s).rsp = none := rfl
@[simp] theorem endPulse_rst : (endPulse s).rst = s.rst := rfl
@[simp] theorem endPulse_cfgAddrPin : (endPulse s).cfgAddrPin = s.cfgAddrPin := rfl
@[simp] theorem endPulse_cfgRowsPin : (endPulse s).cfgRowsPin = s.cfgRowsPin := rfl
@[simp] theorem endPulse_cfgFontPin : (endPulse s).cfgFontPin = s.cfgFontPin := rfl
@[simp] theorem endPulse_hostQueue : (endPulse s).hostQueue = s.hostQueue := rfl
@[simp] theorem endPulse_answers : (endPulse s).answers = s.answers := rfl
@[simp] theorem endPulse_inputs : (endPulse s).inputs = s.inputs := rfl
@[simp] theorem endPulse_events : (endPulse s).events = s.events := rfl
@[simp] theorem endPulse_freeCount : (endPulse s).freeCount = s.freeCount := rfl

@[simp] theorem countDown_pinMap : (countDown s).pinMap = s.pinMap := rfl
@[simp] theorem countDown_cfgAddr : (countDown s).cfgAddr = s.cfgAddr := rfl
@[simp] theorem countDown_cfgN : (countDown s).cfgN = s.cfgN := rfl
@[simp] theorem countDown_cfgF : (countDown s).cfgF = s.cfgF := rfl
@[simp] theorem countDown_bl : (countDown s).bl = s.bl := rfl
@[simp] theorem countDown_func : (countDown s).func = s.func := rfl
@[simp] theorem countDown_dctl : (countDown s).dctl = s.dctl := rfl
@[simp] theorem countDown_emode : (countDown s).emode = s.emode := rfl
@[simp] theorem countDown_st : (countDown s).st = s.st := rfl
@[simp] theorem countDown_act : (countDown s).act = s.act := rfl
@[simp] theorem countDown_aix : (countDown s).aix = s.aix := rfl
@[simp] theorem countDown_tmr : (countDown s).tmr = s.tmr - 1 := rfl
@[simp] theorem countDown_req : (countDown s).req = s.req := rfl
@[simp] theorem countDown_lastResp : (countDown s).lastResp = s.lastResp := rfl
@[simp] theorem countDown_rsp : (countDown s).rsp = s.rsp := rfl
@[simp] theorem countDown_rst : (countDown s).rst = s.rst := rfl
@[simp] theorem countDown_cfgAddrPin : (countDown s).cfgAddrPin = s.cfgAddrPin := rfl
@[simp] theorem countDown_cfgRowsPin : (countDown s).cfgRowsPin = s.cfgRowsPin := rfl
@[simp] theorem countDown_cfgFontPin : (countDown s).cfgFontPin = s.cfgFontPin := rfl
@[simp] theorem countDown_hostQueue : (countDown s).hostQueue = s.hostQueue := rfl
@[simp] theorem countDown_answers : (countDown s).answers = s.answers := rfl
@[simp] theorem countDown_inputs : (countDown s).inputs = s.inputs := rfl
@[simp] theorem countDown_events : (countDown s).events = s.events := rfl
@[simp] theorem countDown_freeCount : (countDown s).freeCount = s.freeCount := rfl

@[simp] theorem nextIndex_pinMap : (nextIndex s).pinMap = s.pinMap := rfl
@[simp] theorem nextIndex_cfgAddr : (nextIndex s).cfgAddr = s.cfgAddr := rfl
@[simp] theorem nextIndex_cfgN : (nextIndex s).cfgN = s.cfgN := rfl
@[simp] theorem nextIndex_cfgF : (nextIndex s).cfgF = s.cfgF := rfl
@[simp] theorem nextIndex_bl : (nextIndex s).bl = s.bl := rfl
@[simp] theorem nextIndex_func : (nextIndex s).func = s.func := rfl
@[simp] theorem nextIndex_dctl : (nextIndex s).dctl = s.dctl := rfl
@[simp] theorem nextIndex_emode : (nextIndex s).emode = s.emode := rfl
@[simp] theorem nextIndex_st : (nextIndex s).st = s.st := rfl
@[simp] theorem nextIndex_act : (nextIndex s).act = s.act := rfl
@[simp] theorem nextIndex_aix : (nextIndex s).aix = s.aix + 1 := rfl
@[simp] theorem nextIndex_tmr : (nextIndex s).tmr = s.tmr := rfl
@[simp] theorem nextIndex_req : (nextIndex s).req = s.req := rfl
@[simp] theorem nextIndex_lastResp : (nextIndex s).lastResp = s.lastResp := rfl
@[simp] theorem nextIndex_rsp : (nextIndex s).rsp = s.rsp := rfl
@[simp] theorem nextIndex_rst : (nextIndex s).rst = s.rst := rfl
@[simp] theorem nextIndex_cfgAddrPin : (nextIndex s).cfgAddrPin = s.cfgAddrPin := rfl
@[simp] theorem nextIndex_cfgRowsPin : (nextIndex s).cfgRowsPin = s.cfgRowsPin := rfl
@[simp] theorem nextIndex_cfgFontPin : (nextIndex s).cfgFontPin = s.cfgFontPin := rfl
@[simp] theorem nextIndex_hostQueue : (nextIndex s).hostQueue = s.hostQueue := rfl
@[simp] theorem nextIndex_answers : (nextIndex s).answers = s.answers := rfl
@[simp] theorem nextIndex_inputs : (nextIndex s).inputs = s.inputs := rfl
@[simp] theorem nextIndex_events : (nextIndex s).events = s.events := rfl
@[simp] theorem nextIndex_freeCount : (nextIndex s).freeCount = s.freeCount := rfl

@[simp] theorem takeAnswer_pinMap (rest : List BusAnswer) : (takeAnswer rest s).pinMap = s.pinMap := rfl
@[simp] theorem takeAnswer_cfgAddr (rest : List BusAnswer) : (takeAnswer rest s).cfgAddr = s.cfgAddr := rfl
@[simp] theorem takeAnswer_cfgN (rest : List BusAnswer) : (takeAnswer rest s).cfgN = s.cfgN := rfl
@[simp] theorem takeAnswer_cfgF (rest : List BusAnswer) : (takeAnswer rest s).cfgF = s.cfgF := rfl
@[simp] theorem takeAnswer_bl (rest : List BusAnswer) : (takeAnswer rest s).bl = s.bl := rfl
@[simp] theorem takeAnswer_func (rest : List BusAnswer) : (takeAnswer rest s).func = s.func := rfl
@[simp] theorem takeAnswer_dctl (rest : List BusAnswer) : (takeAnswer rest s).dctl = s.dctl := rfl
@[simp] theorem takeAnswer_emode (rest : List BusAnswer) : (takeAnswer rest s).emode = s.emode := rfl
@[simp] theorem takeAnswer_st (rest : List BusAnswer) : (takeAnswer rest s).st = s.st := rfl
@[simp] theorem takeAnswer_act (rest : List BusAnswer) : (takeAnswer rest s).act = s.act := rfl
@[simp] theorem takeAnswer_aix (rest : List BusAnswer) : (takeAnswer rest s).aix = s.aix := rfl
@[simp] theorem takeAnswer_tmr (rest : List BusAnswer) : (takeAnswer rest s).tmr = s.tmr := rfl
@[simp] theorem takeAnswer_req (rest : List BusAnswer) : (takeAnswer rest s).req = s.req := rfl
@[simp] theorem takeAnswer_lastResp (rest : List BusAnswer) : (takeAnswer rest s).lastResp = s.lastResp := rfl
@[simp] theorem takeAnswer_rsp (rest : List BusAnswer) : (takeAnswer rest s).rsp = s.rsp := rfl
@[simp] theorem takeAnswer_rst (rest : List BusAnswer) : (takeAnswer rest s).rst = s.rst := rfl
@[simp] theorem takeAnswer_cfgAddrPin (rest : List BusAnswer) : (takeAnswer rest s).cfgAddrPin = s.cfgAddrPin := rfl
@[simp] theorem takeAnswer_cfgRowsPin (rest : List BusAnswer) : (takeAnswer rest s).cfgRowsPin = s.cfgRowsPin := rfl
@[simp] theorem takeAnswer_cfgFontPin (rest : List BusAnswer) : (takeAnswer rest s).cfgFontPin = s.cfgFontPin := rfl
@[simp] theorem takeAnswer_hostQueue (rest : List BusAnswer) : (takeAnswer rest s).hostQueue = s.hostQueue := rfl
@[simp] theorem takeAnswer_answers (rest : List BusAnswer) : (takeAnswer rest s).answers = rest := rfl
@[simp] theorem takeAnswer_inputs (rest : List BusAnswer) : (takeAnswer rest s).inputs = s.inputs := rfl
@[simp] theorem takeAnswer_events (rest : List BusAnswer) : (takeAnswer rest s).events = s.events := rfl
@[simp] theorem takeAnswer_freeCount (rest : List BusAnswer) : (takeAnswer rest s).freeCount = s.freeCount := rfl

@[simp] theorem setPins_pinMap (a : I2cAddr) (r : BitVec 8) (f : Bit) : (setPins a r f s).pinMap = s.pinMap := rfl
@[simp] theorem setPins_cfgAddr (a : I2cAddr) (r : BitVec 8) (f : Bit) : (setPins a r f s).cfgAddr = s.cfgAddr := rfl
@[simp] theorem setPins_cfgN (a : I2cAddr) (r : BitVec 8) (f : Bit) : (setPins a r f s).cfgN = s.cfgN := rfl
@[simp] theorem setPins_cfgF (a : I2cAddr) (r : BitVec 8) (f : Bit) : (setPins a r f s).cfgF = s.cfgF := rfl
@[simp] theorem setPins_bl (a : I2cAddr) (r : BitVec 8) (f : Bit) : (setPins a r f s).bl = s.bl := rfl
@[simp] theorem setPins_func (a : I2cAddr) (r : BitVec 8) (f : Bit) : (setPins a r f s).func = s.func := rfl
@[simp] theorem setPins_dctl (a : I2cAddr) (r : BitVec 8) (f : Bit) : (setPins a r f s).dctl = s.dctl := rfl
@[simp] theorem setPins_emode (a : I2cAddr) (r : BitVec 8) (f : Bit) : (setPins a r f s).emode = s.emode := rfl
@[simp] theorem setPins_st (a : I2cAddr) (r : BitVec 8) (f : Bit) : (setPins a r f s).st = s.st := rfl
@[simp] theorem setPins_act (a : I2cAddr) (r : BitVec 8) (f : Bit) : (setPins a r f s).act = s.act := rfl
@[simp] theorem setPins_aix (a : I2cAddr) (r : BitVec 8) (f : Bit) : (setPins a r f s).aix = s.aix := rfl
@[simp] theorem setPins_tmr (a : I2cAddr) (r : BitVec 8) (f : Bit) : (setPins a r f s).tmr = s.tmr := rfl
@[simp] theorem setPins_req (a : I2cAddr) (r : BitVec 8) (f : Bit) : (setPins a r f s).req = s.req := rfl
@[simp] theorem setPins_lastResp (a : I2cAddr) (r : BitVec 8) (f : Bit) : (setPins a r f s).lastResp = s.lastResp := rfl
@[simp] theorem setPins_rsp (a : I2cAddr) (r : BitVec 8) (f : Bit) : (setPins a r f s).rsp = s.rsp := rfl
@[simp] theorem setPins_rst (a : I2cAddr) (r : BitVec 8) (f : Bit) : (setPins a r f s).rst = s.rst := rfl
@[simp] theorem setPins_cfgAddrPin (a : I2cAddr) (r : BitVec 8) (f : Bit) : (setPins a r f s).cfgAddrPin = a := rfl
@[simp] theorem setPins_cfgRowsPin (a : I2cAddr) (r : BitVec 8) (f : Bit) : (setPins a r f s).cfgRowsPin = r := rfl
@[simp] theorem setPins_cfgFontPin (a : I2cAddr) (r : BitVec 8) (f : Bit) : (setPins a r f s).cfgFontPin = f := rfl
@[simp] theorem setPins_hostQueue (a : I2cAddr) (r : BitVec 8) (f : Bit) : (setPins a r f s).hostQueue = s.hostQueue := rfl
@[simp] theorem setPins_answers (a : I2cAddr) (r : BitVec 8) (f : Bit) : (setPins a r f s).answers = s.answers := rfl
@[simp] theorem setPins_inputs (a : I2cAddr) (r : BitVec 8) (f : Bit) : (setPins a r f s).inputs = s.inputs := rfl
@[simp] theorem setPins_events (a : I2cAddr) (r : BitVec 8) (f : Bit) : (setPins a r f s).events = s.events := rfl
@[simp] theorem setPins_freeCount (a : I2cAddr) (r : BitVec 8) (f : Bit) : (setPins a r f s).freeCount = s.freeCount := rfl

@[simp] theorem addRequest_pinMap (w : ReqWord) : (addRequest w s).pinMap = s.pinMap := rfl
@[simp] theorem addRequest_cfgAddr (w : ReqWord) : (addRequest w s).cfgAddr = s.cfgAddr := rfl
@[simp] theorem addRequest_cfgN (w : ReqWord) : (addRequest w s).cfgN = s.cfgN := rfl
@[simp] theorem addRequest_cfgF (w : ReqWord) : (addRequest w s).cfgF = s.cfgF := rfl
@[simp] theorem addRequest_bl (w : ReqWord) : (addRequest w s).bl = s.bl := rfl
@[simp] theorem addRequest_func (w : ReqWord) : (addRequest w s).func = s.func := rfl
@[simp] theorem addRequest_dctl (w : ReqWord) : (addRequest w s).dctl = s.dctl := rfl
@[simp] theorem addRequest_emode (w : ReqWord) : (addRequest w s).emode = s.emode := rfl
@[simp] theorem addRequest_st (w : ReqWord) : (addRequest w s).st = s.st := rfl
@[simp] theorem addRequest_act (w : ReqWord) : (addRequest w s).act = s.act := rfl
@[simp] theorem addRequest_aix (w : ReqWord) : (addRequest w s).aix = s.aix := rfl
@[simp] theorem addRequest_tmr (w : ReqWord) : (addRequest w s).tmr = s.tmr := rfl
@[simp] theorem addRequest_req (w : ReqWord) : (addRequest w s).req = s.req := rfl
@[simp] theorem addRequest_lastResp (w : ReqWord) : (addRequest w s).lastResp = s.lastResp := rfl
@[simp] theorem addRequest_rsp (w : ReqWord) : (addRequest w s).rsp = s.rsp := rfl
@[simp] theorem addRequest_rst (w : ReqWord) : (addRequest w s).rst = s.rst := rfl
@[simp] theorem addRequest_cfgAddrPin (w : ReqWord) : (addRequest w s).cfgAddrPin = s.cfgAddrPin := rfl
@[simp] theorem addRequest_cfgRowsPin (w : ReqWord) : (addRequest w s).cfgRowsPin = s.cfgRowsPin := rfl
@[simp] theorem addRequest_cfgFontPin (w : ReqWord) : (addRequest w s).cfgFontPin = s.cfgFontPin := rfl
@[simp] theorem addRequest_hostQueue (w : ReqWord) : (addRequest w s).hostQueue = s.hostQueue ++ [w] := rfl
@[simp] theorem addRequest_answers (w : ReqWord) : (addRequest w s).answers = s.answers := rfl
@[simp] theorem addRequest_inputs (w : ReqWord) : (addRequest w s).inputs = s.inputs := rfl
@[simp] theorem addRequest_events (w : ReqWord) : (addRequest w s).events = s.events := rfl
@[simp] theorem addRequest_freeCount (w : ReqWord) : (addRequest w s).freeCount = s.freeCount := rfl

@[simp] theorem addAnswer_pinMap (a : BusAnswer) : (addAnswer a s).pinMap = s.pinMap := rfl
@[simp] theorem addAnswer_cfgAddr (a : BusAnswer) : (addAnswer a s).cfgAddr = s.cfgAddr := rfl
@[simp] theorem addAnswer_cfgN (a : BusAnswer) : (addAnswer a s).cfgN = s.cfgN := rfl
@[simp] theorem addAnswer_cfgF (a : BusAnswer) : (addAnswer a s).cfgF = s.cfgF := rfl
@[simp] theorem addAnswer_bl (a : BusAnswer) : (addAnswer a s).bl = s.bl := rfl
@[simp] theorem addAnswer_func (a : BusAnswer) : (addAnswer a s).func = s.func := rfl
@[simp] theorem addAnswer_dctl (a : BusAnswer) : (addAnswer a s).dctl = s.dctl := rfl
@[simp] theorem addAnswer_emode (a : BusAnswer) : (addAnswer a s).emode = s.emode := rfl
@[simp] theorem addAnswer_st (a : BusAnswer) : (addAnswer a s).st = s.st := rfl
@[simp] theorem addAnswer_act (a : BusAnswer) : (addAnswer a s).act = s.act := rfl
@[simp] theorem addAnswer_aix (a : BusAnswer) : (addAnswer a s).aix = s.aix := rfl
@[simp] theorem addAnswer_tmr (a : BusAnswer) : (addAnswer a s).tmr = s.tmr := rfl
@[simp] theorem addAnswer_req (a : BusAnswer) : (addAnswer a s).req = s.req := rfl
@[simp] theorem addAnswer_lastResp (a : BusAnswer) : (addAnswer a s).lastResp = s.lastResp := rfl
@[simp] theorem addAnswer_rsp (a : BusAnswer) : (addAnswer a s).rsp = s.rsp := rfl
@[simp] theorem addAnswer_rst (a : BusAnswer) : (addAnswer a s).rst = s.rst := rfl
@[simp] theorem addAnswer_cfgAddrPin (a : BusAnswer) : (addAnswer a s).cfgAddrPin = s.cfgAddrPin := rfl
@[simp] theorem addAnswer_cfgRowsPin (a : BusAnswer) : (addAnswer a s).cfgRowsPin = s.cfgRowsPin := rfl
@[simp] theorem addAnswer_cfgFontPin (a : BusAnswer) : (addAnswer a s).cfgFontPin = s.cfgFontPin := rfl
@[simp] theorem addAnswer_hostQueue (a : BusAnswer) : (addAnswer a s).hostQueue = s.hostQueue := rfl
@[simp] theorem addAnswer_answers (a : BusAnswer) : (addAnswer a s).answers = s.answers ++ [a] := rfl
@[simp] theorem addAnswer_inputs (a : BusAnswer) : (addAnswer a s).inputs = s.inputs := rfl
@[simp] theorem addAnswer_events (a : BusAnswer) : (addAnswer a s).events = s.events := rfl
@[simp] theorem addAnswer_freeCount (a : BusAnswer) : (addAnswer a s).freeCount = s.freeCount := rfl

@[simp] theorem setRst_pinMap (level : Bool) : (setRst level s).pinMap = s.pinMap := rfl
@[simp] theorem setRst_cfgAddr (level : Bool) : (setRst level s).cfgAddr = s.cfgAddr := rfl
@[simp] theorem setRst_cfgN (level : Bool) : (setRst level s).cfgN = s.cfgN := rfl
@[simp] theorem setRst_cfgF (level : Bool) : (setRst level s).cfgF = s.cfgF := rfl
@[simp] theorem setRst_bl (level : Bool) : (setRst level s).bl = s.bl := rfl
@[simp] theorem setRst_func (level : Bool) : (setRst level s).func = s.func := rfl
@[simp] theorem setRst_dctl (level : Bool) : (setRst level s).dctl = s.dctl := rfl
@[simp] theorem setRst_emode (level : Bool) : (setRst level s).emode = s.emode := rfl
@[simp] theorem setRst_st (level : Bool) : (setRst level s).st = s.st := rfl
@[simp] theorem setRst_act (level : Bool) : (setRst level s).act = s.act := rfl
@[simp] theorem setRst_aix (level : Bool) : (setRst level s).aix = s.aix := rfl
@[simp] theorem setRst_tmr (level : Bool) : (setRst level s).tmr = s.tmr := rfl
@[simp] theorem setRst_req (level : Bool) : (setRst level s).req = s.req := rfl
@[simp] theorem setRst_lastResp (level : Bool) : (setRst level s).lastResp = s.lastResp := rfl
@[simp] theorem setRst_rsp (level : Bool) : (setRst level s).rsp = s.rsp := rfl
@[simp] theorem setRst_rst (level : Bool) : (setRst level s).rst = level := rfl
@[simp] theorem setRst_cfgAddrPin (level : Bool) : (setRst level s).cfgAddrPin = s.cfgAddrPin := rfl
@[simp] theorem setRst_cfgRowsPin (level : Bool) : (setRst level s).cfgRowsPin = s.cfgRowsPin := rfl
@[simp] theorem setRst_cfgFontPin (level : Bool) : (setRst level s).cfgFontPin = s.cfgFontPin := rfl
@[simp] theorem setRst_hostQueue (level : Bool) : (setRst level s).hostQueue = s.hostQueue := rfl
@[simp] theorem setRst_answers (level : Bool) : (setRst level s).answers = s.answers := rfl
@[simp] theorem setRst_inputs (level : Bool) : (setRst level s).inputs = s.inputs := rfl
@[simp] theorem setRst_events (level : Bool) : (setRst level s).events = s.events := rfl
@[simp] theorem setRst_freeCount (level : Bool) : (setRst level s).freeCount = s.freeCount := rfl

@[simp] theorem takeInput_pinMap (rest : List (Nat × Input)) : (takeInput rest s).pinMap = s.pinMap := rfl
@[simp] theorem takeInput_cfgAddr (rest : List (Nat × Input)) : (takeInput rest s).cfgAddr = s.cfgAddr := rfl
@[simp] theorem takeInput_cfgN (rest : List (Nat × Input)) : (takeInput rest s).cfgN = s.cfgN := rfl
@[simp] theorem takeInput_cfgF (rest : List (Nat × Input)) : (takeInput rest s).cfgF = s.cfgF := rfl
@[simp] theorem takeInput_bl (rest : List (Nat × Input)) : (takeInput rest s).bl = s.bl := rfl
@[simp] theorem takeInput_func (rest : List (Nat × Input)) : (takeInput rest s).func = s.func := rfl
@[simp] theorem takeInput_dctl (rest : List (Nat × Input)) : (takeInput rest s).dctl = s.dctl := rfl
@[simp] theorem takeInput_emode (rest : List (Nat × Input)) : (takeInput rest s).emode = s.emode := rfl
@[simp] theorem takeInput_st (rest : List (Nat × Input)) : (takeInput rest s).st = s.st := rfl
@[simp] theorem takeInput_act (rest : List (Nat × Input)) : (takeInput rest s).act = s.act := rfl
@[simp] theorem takeInput_aix (rest : List (Nat × Input)) : (takeInput rest s).aix = s.aix := rfl
@[simp] theorem takeInput_tmr (rest : List (Nat × Input)) : (takeInput rest s).tmr = s.tmr := rfl
@[simp] theorem takeInput_req (rest : List (Nat × Input)) : (takeInput rest s).req = s.req := rfl
@[simp] theorem takeInput_lastResp (rest : List (Nat × Input)) : (takeInput rest s).lastResp = s.lastResp := rfl
@[simp] theorem takeInput_rsp (rest : List (Nat × Input)) : (takeInput rest s).rsp = s.rsp := rfl
@[simp] theorem takeInput_rst (rest : List (Nat × Input)) : (takeInput rest s).rst = s.rst := rfl
@[simp] theorem takeInput_cfgAddrPin (rest : List (Nat × Input)) : (takeInput rest s).cfgAddrPin = s.cfgAddrPin := rfl
@[simp] theorem takeInput_cfgRowsPin (rest : List (Nat × Input)) : (takeInput rest s).cfgRowsPin = s.cfgRowsPin := rfl
@[simp] theorem takeInput_cfgFontPin (rest : List (Nat × Input)) : (takeInput rest s).cfgFontPin = s.cfgFontPin := rfl
@[simp] theorem takeInput_hostQueue (rest : List (Nat × Input)) : (takeInput rest s).hostQueue = s.hostQueue := rfl
@[simp] theorem takeInput_answers (rest : List (Nat × Input)) : (takeInput rest s).answers = s.answers := rfl
@[simp] theorem takeInput_inputs (rest : List (Nat × Input)) : (takeInput rest s).inputs = rest := rfl
@[simp] theorem takeInput_events (rest : List (Nat × Input)) : (takeInput rest s).events = s.events := rfl
@[simp] theorem takeInput_freeCount (rest : List (Nat × Input)) : (takeInput rest s).freeCount = s.freeCount := rfl

@[simp] theorem accept_pinMap (w : ReqWord) (rest : List ReqWord) : (accept w rest s).pinMap = s.pinMap := rfl
@[simp] theorem accept_cfgAddr (w : ReqWord) (rest : List ReqWord) : (accept w rest s).cfgAddr = s.cfgAddr := rfl
@[simp] theorem accept_cfgN (w : ReqWord) (rest : List ReqWord) : (accept w rest s).cfgN = s.cfgN := rfl
@[simp] theorem accept_cfgF (w : ReqWord) (rest : List ReqWord) : (accept w rest s).cfgF = s.cfgF := rfl
@[simp] theorem accept_bl (w : ReqWord) (rest : List ReqWord) : (accept w rest s).bl = s.bl := rfl
@[simp] theorem accept_func (w : ReqWord) (rest : List ReqWord) : (accept w rest s).func = s.func := rfl
@[simp] theorem accept_dctl (w : ReqWord) (rest : List ReqWord) : (accept w rest s).dctl = s.dctl := rfl
@[simp] theorem accept_emode (w : ReqWord) (rest : List ReqWord) : (accept w rest s).emode = s.emode := rfl
@[simp] theorem accept_st (w : ReqWord) (rest : List ReqWord) : (accept w rest s).st = s.st := rfl
@[simp] theorem accept_act (w : ReqWord) (rest : List ReqWord) : (accept w rest s).act = s.act := rfl
@[simp] theorem accept_aix (w : ReqWord) (rest : List ReqWord) : (accept w rest s).aix = s.aix := rfl
@[simp] theorem accept_tmr (w : ReqWord) (rest : List ReqWord) : (accept w rest s).tmr = s.tmr := rfl
@[simp] theorem accept_req (w : ReqWord) (rest : List ReqWord) : (accept w rest s).req = w := rfl
@[simp] theorem accept_lastResp (w : ReqWord) (rest : List ReqWord) : (accept w rest s).lastResp = s.lastResp := rfl
@[simp] theorem accept_rsp (w : ReqWord) (rest : List ReqWord) : (accept w rest s).rsp = s.rsp := rfl
@[simp] theorem accept_rst (w : ReqWord) (rest : List ReqWord) : (accept w rest s).rst = s.rst := rfl
@[simp] theorem accept_cfgAddrPin (w : ReqWord) (rest : List ReqWord) : (accept w rest s).cfgAddrPin = s.cfgAddrPin := rfl
@[simp] theorem accept_cfgRowsPin (w : ReqWord) (rest : List ReqWord) : (accept w rest s).cfgRowsPin = s.cfgRowsPin := rfl
@[simp] theorem accept_cfgFontPin (w : ReqWord) (rest : List ReqWord) : (accept w rest s).cfgFontPin = s.cfgFontPin := rfl
@[simp] theorem accept_hostQueue (w : ReqWord) (rest : List ReqWord) : (accept w rest s).hostQueue = rest := rfl
@[simp] theorem accept_answers (w : ReqWord) (rest : List ReqWord) : (accept w rest s).answers = s.answers := rfl
@[simp] theorem accept_inputs (w : ReqWord) (rest : List ReqWord) : (accept w rest s).inputs = s.inputs := rfl
@[simp] theorem accept_events (w : ReqWord) (rest : List ReqWord) : (accept w rest s).events = s.events := rfl
@[simp] theorem accept_freeCount (w : ReqWord) (rest : List ReqWord) : (accept w rest s).freeCount = s.freeCount := rfl

@[simp] theorem respond_pinMap (c : RespCode) : (respond c s).pinMap = s.pinMap := rfl
@[simp] theorem respond_cfgAddr (c : RespCode) : (respond c s).cfgAddr = s.cfgAddr := rfl
@[simp] theorem respond_cfgN (c : RespCode) : (respond c s).cfgN = s.cfgN := rfl
@[simp] theorem respond_cfgF (c : RespCode) : (respond c s).cfgF = s.cfgF := rfl
@[simp] theorem respond_bl (c : RespCode) : (respond c s).bl = s.bl := rfl
@[simp] theorem respond_func (c : RespCode) : (respond c s).func = s.func := rfl
@[simp] theorem respond_dctl (c : RespCode) : (respond c s).dctl = s.dctl := rfl
@[simp] theorem respond_emode (c : RespCode) : (respond c s).emode = s.emode := rfl
@[simp] theorem respond_st (c : RespCode) : (respond c s).st = if s.st = .fault then .fault else .ready := rfl
@[simp] theorem respond_act (c : RespCode) : (respond c s).act = s.act := rfl
@[simp] theorem respond_aix (c : RespCode) : (respond c s).aix = s.aix := rfl
@[simp] theorem respond_tmr (c : RespCode) : (respond c s).tmr = s.tmr := rfl
@[simp] theorem respond_req (c : RespCode) : (respond c s).req = freeReq s.freeCount := rfl
@[simp] theorem respond_lastResp (c : RespCode) : (respond c s).lastResp = c := rfl
@[simp] theorem respond_rsp (c : RespCode) : (respond c s).rsp = some c := rfl
@[simp] theorem respond_rst (c : RespCode) : (respond c s).rst = s.rst := rfl
@[simp] theorem respond_cfgAddrPin (c : RespCode) : (respond c s).cfgAddrPin = s.cfgAddrPin := rfl
@[simp] theorem respond_cfgRowsPin (c : RespCode) : (respond c s).cfgRowsPin = s.cfgRowsPin := rfl
@[simp] theorem respond_cfgFontPin (c : RespCode) : (respond c s).cfgFontPin = s.cfgFontPin := rfl
@[simp] theorem respond_hostQueue (c : RespCode) : (respond c s).hostQueue = s.hostQueue := rfl
@[simp] theorem respond_answers (c : RespCode) : (respond c s).answers = s.answers := rfl
@[simp] theorem respond_inputs (c : RespCode) : (respond c s).inputs = s.inputs := rfl
@[simp] theorem respond_events (c : RespCode) : (respond c s).events = s.events ++ [.resp c] := rfl
@[simp] theorem respond_freeCount (c : RespCode) : (respond c s).freeCount = s.freeCount + 1 := rfl

@[simp] theorem resetRegs_pinMap (a : I2cAddr) (n f : Bit) : (resetRegs a n f s).pinMap = s.pinMap := rfl
@[simp] theorem resetRegs_cfgAddr (a : I2cAddr) (n f : Bit) : (resetRegs a n f s).cfgAddr = a := rfl
@[simp] theorem resetRegs_cfgN (a : I2cAddr) (n f : Bit) : (resetRegs a n f s).cfgN = n := rfl
@[simp] theorem resetRegs_cfgF (a : I2cAddr) (n f : Bit) : (resetRegs a n f s).cfgF = f := rfl
@[simp] theorem resetRegs_bl (a : I2cAddr) (n f : Bit) : (resetRegs a n f s).bl = resetBl := rfl
@[simp] theorem resetRegs_func (a : I2cAddr) (n f : Bit) : (resetRegs a n f s).func = resetFunc := rfl
@[simp] theorem resetRegs_dctl (a : I2cAddr) (n f : Bit) : (resetRegs a n f s).dctl = resetDctl := rfl
@[simp] theorem resetRegs_emode (a : I2cAddr) (n f : Bit) : (resetRegs a n f s).emode = resetEmode := rfl
@[simp] theorem resetRegs_st (a : I2cAddr) (n f : Bit) : (resetRegs a n f s).st = .init := rfl
@[simp] theorem resetRegs_act (a : I2cAddr) (n f : Bit) : (resetRegs a n f s).act = initList s.pinMap resetBl n f := rfl
@[simp] theorem resetRegs_aix (a : I2cAddr) (n f : Bit) : (resetRegs a n f s).aix = 0 := rfl
@[simp] theorem resetRegs_tmr (a : I2cAddr) (n f : Bit) : (resetRegs a n f s).tmr = resetTmr := rfl
@[simp] theorem resetRegs_req (a : I2cAddr) (n f : Bit) : (resetRegs a n f s).req = resetReq := rfl
@[simp] theorem resetRegs_lastResp (a : I2cAddr) (n f : Bit) : (resetRegs a n f s).lastResp = .ok := rfl
@[simp] theorem resetRegs_rsp (a : I2cAddr) (n f : Bit) : (resetRegs a n f s).rsp = none := rfl
@[simp] theorem resetRegs_rst (a : I2cAddr) (n f : Bit) : (resetRegs a n f s).rst = s.rst := rfl
@[simp] theorem resetRegs_cfgAddrPin (a : I2cAddr) (n f : Bit) : (resetRegs a n f s).cfgAddrPin = s.cfgAddrPin := rfl
@[simp] theorem resetRegs_cfgRowsPin (a : I2cAddr) (n f : Bit) : (resetRegs a n f s).cfgRowsPin = s.cfgRowsPin := rfl
@[simp] theorem resetRegs_cfgFontPin (a : I2cAddr) (n f : Bit) : (resetRegs a n f s).cfgFontPin = s.cfgFontPin := rfl
@[simp] theorem resetRegs_hostQueue (a : I2cAddr) (n f : Bit) : (resetRegs a n f s).hostQueue = s.hostQueue := rfl
@[simp] theorem resetRegs_answers (a : I2cAddr) (n f : Bit) : (resetRegs a n f s).answers = s.answers := rfl
@[simp] theorem resetRegs_inputs (a : I2cAddr) (n f : Bit) : (resetRegs a n f s).inputs = s.inputs := rfl
@[simp] theorem resetRegs_events (a : I2cAddr) (n f : Bit) : (resetRegs a n f s).events = s.events := rfl
@[simp] theorem resetRegs_freeCount (a : I2cAddr) (n f : Bit) : (resetRegs a n f s).freeCount = s.freeCount := rfl

@[simp] theorem armTimer_pinMap : (armTimer s).pinMap = s.pinMap := by unfold armTimer; split <;> rfl
@[simp] theorem armTimer_cfgAddr : (armTimer s).cfgAddr = s.cfgAddr := by unfold armTimer; split <;> rfl
@[simp] theorem armTimer_cfgN : (armTimer s).cfgN = s.cfgN := by unfold armTimer; split <;> rfl
@[simp] theorem armTimer_cfgF : (armTimer s).cfgF = s.cfgF := by unfold armTimer; split <;> rfl
@[simp] theorem armTimer_bl : (armTimer s).bl = s.bl := by unfold armTimer; split <;> rfl
@[simp] theorem armTimer_func : (armTimer s).func = s.func := by unfold armTimer; split <;> rfl
@[simp] theorem armTimer_dctl : (armTimer s).dctl = s.dctl := by unfold armTimer; split <;> rfl
@[simp] theorem armTimer_emode : (armTimer s).emode = s.emode := by unfold armTimer; split <;> rfl
@[simp] theorem armTimer_st : (armTimer s).st = s.st := by unfold armTimer; split <;> rfl
@[simp] theorem armTimer_act : (armTimer s).act = s.act := by unfold armTimer; split <;> rfl
@[simp] theorem armTimer_aix : (armTimer s).aix = s.aix := by unfold armTimer; split <;> rfl
@[simp] theorem armTimer_req : (armTimer s).req = s.req := by unfold armTimer; split <;> rfl
@[simp] theorem armTimer_lastResp : (armTimer s).lastResp = s.lastResp := by unfold armTimer; split <;> rfl
@[simp] theorem armTimer_rsp : (armTimer s).rsp = s.rsp := by unfold armTimer; split <;> rfl
@[simp] theorem armTimer_rst : (armTimer s).rst = s.rst := by unfold armTimer; split <;> rfl
@[simp] theorem armTimer_cfgAddrPin : (armTimer s).cfgAddrPin = s.cfgAddrPin := by unfold armTimer; split <;> rfl
@[simp] theorem armTimer_cfgRowsPin : (armTimer s).cfgRowsPin = s.cfgRowsPin := by unfold armTimer; split <;> rfl
@[simp] theorem armTimer_cfgFontPin : (armTimer s).cfgFontPin = s.cfgFontPin := by unfold armTimer; split <;> rfl
@[simp] theorem armTimer_hostQueue : (armTimer s).hostQueue = s.hostQueue := by unfold armTimer; split <;> rfl
@[simp] theorem armTimer_answers : (armTimer s).answers = s.answers := by unfold armTimer; split <;> rfl
@[simp] theorem armTimer_inputs : (armTimer s).inputs = s.inputs := by unfold armTimer; split <;> rfl
@[simp] theorem armTimer_events : (armTimer s).events = s.events := by unfold armTimer; split <;> rfl
@[simp] theorem armTimer_freeCount : (armTimer s).freeCount = s.freeCount := by unfold armTimer; split <;> rfl

@[simp] theorem tickInputs_pinMap : (tickInputs s).pinMap = s.pinMap := by unfold tickInputs; split <;> rfl
@[simp] theorem tickInputs_cfgAddr : (tickInputs s).cfgAddr = s.cfgAddr := by unfold tickInputs; split <;> rfl
@[simp] theorem tickInputs_cfgN : (tickInputs s).cfgN = s.cfgN := by unfold tickInputs; split <;> rfl
@[simp] theorem tickInputs_cfgF : (tickInputs s).cfgF = s.cfgF := by unfold tickInputs; split <;> rfl
@[simp] theorem tickInputs_bl : (tickInputs s).bl = s.bl := by unfold tickInputs; split <;> rfl
@[simp] theorem tickInputs_func : (tickInputs s).func = s.func := by unfold tickInputs; split <;> rfl
@[simp] theorem tickInputs_dctl : (tickInputs s).dctl = s.dctl := by unfold tickInputs; split <;> rfl
@[simp] theorem tickInputs_emode : (tickInputs s).emode = s.emode := by unfold tickInputs; split <;> rfl
@[simp] theorem tickInputs_st : (tickInputs s).st = s.st := by unfold tickInputs; split <;> rfl
@[simp] theorem tickInputs_act : (tickInputs s).act = s.act := by unfold tickInputs; split <;> rfl
@[simp] theorem tickInputs_aix : (tickInputs s).aix = s.aix := by unfold tickInputs; split <;> rfl
@[simp] theorem tickInputs_tmr : (tickInputs s).tmr = s.tmr := by unfold tickInputs; split <;> rfl
@[simp] theorem tickInputs_req : (tickInputs s).req = s.req := by unfold tickInputs; split <;> rfl
@[simp] theorem tickInputs_lastResp : (tickInputs s).lastResp = s.lastResp := by unfold tickInputs; split <;> rfl
@[simp] theorem tickInputs_rsp : (tickInputs s).rsp = s.rsp := by unfold tickInputs; split <;> rfl
@[simp] theorem tickInputs_rst : (tickInputs s).rst = s.rst := by unfold tickInputs; split <;> rfl
@[simp] theorem tickInputs_cfgAddrPin : (tickInputs s).cfgAddrPin = s.cfgAddrPin := by unfold tickInputs; split <;> rfl
@[simp] theorem tickInputs_cfgRowsPin : (tickInputs s).cfgRowsPin = s.cfgRowsPin := by unfold tickInputs; split <;> rfl
@[simp] theorem tickInputs_cfgFontPin : (tickInputs s).cfgFontPin = s.cfgFontPin := by unfold tickInputs; split <;> rfl
@[simp] theorem tickInputs_hostQueue : (tickInputs s).hostQueue = s.hostQueue := by unfold tickInputs; split <;> rfl
@[simp] theorem tickInputs_answers : (tickInputs s).answers = s.answers := by unfold tickInputs; split <;> rfl
@[simp] theorem tickInputs_events : (tickInputs s).events = s.events := by unfold tickInputs; split <;> rfl
@[simp] theorem tickInputs_freeCount : (tickInputs s).freeCount = s.freeCount := by unfold tickInputs; split <;> rfl

@[simp] theorem shadowWrite_pinMap (v : Byte) : (shadowWrite v s).pinMap = s.pinMap := by unfold shadowWrite; split <;> rfl
@[simp] theorem shadowWrite_cfgAddr (v : Byte) : (shadowWrite v s).cfgAddr = s.cfgAddr := by unfold shadowWrite; split <;> rfl
@[simp] theorem shadowWrite_cfgN (v : Byte) : (shadowWrite v s).cfgN = s.cfgN := by unfold shadowWrite; split <;> rfl
@[simp] theorem shadowWrite_cfgF (v : Byte) : (shadowWrite v s).cfgF = s.cfgF := by unfold shadowWrite; split <;> rfl
@[simp] theorem shadowWrite_bl (v : Byte) : (shadowWrite v s).bl = s.bl := by unfold shadowWrite; split <;> rfl
@[simp] theorem shadowWrite_st (v : Byte) : (shadowWrite v s).st = s.st := by unfold shadowWrite; split <;> rfl
@[simp] theorem shadowWrite_act (v : Byte) : (shadowWrite v s).act = s.act := by unfold shadowWrite; split <;> rfl
@[simp] theorem shadowWrite_aix (v : Byte) : (shadowWrite v s).aix = s.aix := by unfold shadowWrite; split <;> rfl
@[simp] theorem shadowWrite_tmr (v : Byte) : (shadowWrite v s).tmr = s.tmr := by unfold shadowWrite; split <;> rfl
@[simp] theorem shadowWrite_req (v : Byte) : (shadowWrite v s).req = s.req := by unfold shadowWrite; split <;> rfl
@[simp] theorem shadowWrite_lastResp (v : Byte) : (shadowWrite v s).lastResp = s.lastResp := by unfold shadowWrite; split <;> rfl
@[simp] theorem shadowWrite_rsp (v : Byte) : (shadowWrite v s).rsp = s.rsp := by unfold shadowWrite; split <;> rfl
@[simp] theorem shadowWrite_rst (v : Byte) : (shadowWrite v s).rst = s.rst := by unfold shadowWrite; split <;> rfl
@[simp] theorem shadowWrite_cfgAddrPin (v : Byte) : (shadowWrite v s).cfgAddrPin = s.cfgAddrPin := by unfold shadowWrite; split <;> rfl
@[simp] theorem shadowWrite_cfgRowsPin (v : Byte) : (shadowWrite v s).cfgRowsPin = s.cfgRowsPin := by unfold shadowWrite; split <;> rfl
@[simp] theorem shadowWrite_cfgFontPin (v : Byte) : (shadowWrite v s).cfgFontPin = s.cfgFontPin := by unfold shadowWrite; split <;> rfl
@[simp] theorem shadowWrite_hostQueue (v : Byte) : (shadowWrite v s).hostQueue = s.hostQueue := by unfold shadowWrite; split <;> rfl
@[simp] theorem shadowWrite_answers (v : Byte) : (shadowWrite v s).answers = s.answers := by unfold shadowWrite; split <;> rfl
@[simp] theorem shadowWrite_inputs (v : Byte) : (shadowWrite v s).inputs = s.inputs := by unfold shadowWrite; split <;> rfl
@[simp] theorem shadowWrite_events (v : Byte) : (shadowWrite v s).events = s.events := by unfold shadowWrite; split <;> rfl
@[simp] theorem shadowWrite_freeCount (v : Byte) : (shadowWrite v s).freeCount = s.freeCount := by unfold shadowWrite; split <;> rfl

@[simp] theorem initShadow_pinMap : (initShadow s).pinMap = s.pinMap := by unfold initShadow; repeat (first | rfl | split)
@[simp] theorem initShadow_cfgAddr : (initShadow s).cfgAddr = s.cfgAddr := by unfold initShadow; repeat (first | rfl | split)
@[simp] theorem initShadow_cfgN : (initShadow s).cfgN = s.cfgN := by unfold initShadow; repeat (first | rfl | split)
@[simp] theorem initShadow_cfgF : (initShadow s).cfgF = s.cfgF := by unfold initShadow; repeat (first | rfl | split)
@[simp] theorem initShadow_bl : (initShadow s).bl = s.bl := by unfold initShadow; repeat (first | rfl | split)
@[simp] theorem initShadow_st : (initShadow s).st = s.st := by unfold initShadow; repeat (first | rfl | split)
@[simp] theorem initShadow_act : (initShadow s).act = s.act := by unfold initShadow; repeat (first | rfl | split)
@[simp] theorem initShadow_aix : (initShadow s).aix = s.aix := by unfold initShadow; repeat (first | rfl | split)
@[simp] theorem initShadow_tmr : (initShadow s).tmr = s.tmr := by unfold initShadow; repeat (first | rfl | split)
@[simp] theorem initShadow_req : (initShadow s).req = s.req := by unfold initShadow; repeat (first | rfl | split)
@[simp] theorem initShadow_lastResp : (initShadow s).lastResp = s.lastResp := by unfold initShadow; repeat (first | rfl | split)
@[simp] theorem initShadow_rsp : (initShadow s).rsp = s.rsp := by unfold initShadow; repeat (first | rfl | split)
@[simp] theorem initShadow_rst : (initShadow s).rst = s.rst := by unfold initShadow; repeat (first | rfl | split)
@[simp] theorem initShadow_cfgAddrPin : (initShadow s).cfgAddrPin = s.cfgAddrPin := by unfold initShadow; repeat (first | rfl | split)
@[simp] theorem initShadow_cfgRowsPin : (initShadow s).cfgRowsPin = s.cfgRowsPin := by unfold initShadow; repeat (first | rfl | split)
@[simp] theorem initShadow_cfgFontPin : (initShadow s).cfgFontPin = s.cfgFontPin := by unfold initShadow; repeat (first | rfl | split)
@[simp] theorem initShadow_hostQueue : (initShadow s).hostQueue = s.hostQueue := by unfold initShadow; repeat (first | rfl | split)
@[simp] theorem initShadow_answers : (initShadow s).answers = s.answers := by unfold initShadow; repeat (first | rfl | split)
@[simp] theorem initShadow_inputs : (initShadow s).inputs = s.inputs := by unfold initShadow; repeat (first | rfl | split)
@[simp] theorem initShadow_events : (initShadow s).events = s.events := by unfold initShadow; repeat (first | rfl | split)
@[simp] theorem initShadow_freeCount : (initShadow s).freeCount = s.freeCount := by unfold initShadow; repeat (first | rfl | split)

@[simp] theorem finishList_pinMap : (finishList s).pinMap = s.pinMap := by unfold finishList; split <;> rfl
@[simp] theorem finishList_cfgAddr : (finishList s).cfgAddr = s.cfgAddr := by unfold finishList; split <;> rfl
@[simp] theorem finishList_cfgN : (finishList s).cfgN = s.cfgN := by unfold finishList; split <;> rfl
@[simp] theorem finishList_cfgF : (finishList s).cfgF = s.cfgF := by unfold finishList; split <;> rfl
@[simp] theorem finishList_bl : (finishList s).bl = s.bl := by unfold finishList; split <;> rfl
@[simp] theorem finishList_func : (finishList s).func = s.func := by unfold finishList; split <;> rfl
@[simp] theorem finishList_dctl : (finishList s).dctl = s.dctl := by unfold finishList; split <;> rfl
@[simp] theorem finishList_emode : (finishList s).emode = s.emode := by unfold finishList; split <;> rfl
@[simp] theorem finishList_act : (finishList s).act = s.act := by unfold finishList; split <;> rfl
@[simp] theorem finishList_aix : (finishList s).aix = s.aix := by unfold finishList; split <;> rfl
@[simp] theorem finishList_tmr : (finishList s).tmr = s.tmr := by unfold finishList; split <;> rfl
@[simp] theorem finishList_rst : (finishList s).rst = s.rst := by unfold finishList; split <;> rfl
@[simp] theorem finishList_cfgAddrPin : (finishList s).cfgAddrPin = s.cfgAddrPin := by unfold finishList; split <;> rfl
@[simp] theorem finishList_cfgRowsPin : (finishList s).cfgRowsPin = s.cfgRowsPin := by unfold finishList; split <;> rfl
@[simp] theorem finishList_cfgFontPin : (finishList s).cfgFontPin = s.cfgFontPin := by unfold finishList; split <;> rfl
@[simp] theorem finishList_hostQueue : (finishList s).hostQueue = s.hostQueue := by unfold finishList; split <;> rfl
@[simp] theorem finishList_answers : (finishList s).answers = s.answers := by unfold finishList; split <;> rfl
@[simp] theorem finishList_inputs : (finishList s).inputs = s.inputs := by unfold finishList; split <;> rfl

@[simp] theorem abortList_pinMap : (abortList s).pinMap = s.pinMap := by unfold abortList; split <;> rfl
@[simp] theorem abortList_cfgAddr : (abortList s).cfgAddr = s.cfgAddr := by unfold abortList; split <;> rfl
@[simp] theorem abortList_cfgN : (abortList s).cfgN = s.cfgN := by unfold abortList; split <;> rfl
@[simp] theorem abortList_cfgF : (abortList s).cfgF = s.cfgF := by unfold abortList; split <;> rfl
@[simp] theorem abortList_bl : (abortList s).bl = s.bl := by unfold abortList; split <;> rfl
@[simp] theorem abortList_func : (abortList s).func = s.func := by unfold abortList; split <;> rfl
@[simp] theorem abortList_dctl : (abortList s).dctl = s.dctl := by unfold abortList; split <;> rfl
@[simp] theorem abortList_emode : (abortList s).emode = s.emode := by unfold abortList; split <;> rfl
@[simp] theorem abortList_act : (abortList s).act = s.act := by unfold abortList; split <;> rfl
@[simp] theorem abortList_aix : (abortList s).aix = s.aix := by unfold abortList; split <;> rfl
@[simp] theorem abortList_tmr : (abortList s).tmr = s.tmr := by unfold abortList; split <;> rfl
@[simp] theorem abortList_rst : (abortList s).rst = s.rst := by unfold abortList; split <;> rfl
@[simp] theorem abortList_cfgAddrPin : (abortList s).cfgAddrPin = s.cfgAddrPin := by unfold abortList; split <;> rfl
@[simp] theorem abortList_cfgRowsPin : (abortList s).cfgRowsPin = s.cfgRowsPin := by unfold abortList; split <;> rfl
@[simp] theorem abortList_cfgFontPin : (abortList s).cfgFontPin = s.cfgFontPin := by unfold abortList; split <;> rfl
@[simp] theorem abortList_hostQueue : (abortList s).hostQueue = s.hostQueue := by unfold abortList; split <;> rfl
@[simp] theorem abortList_answers : (abortList s).answers = s.answers := by unfold abortList; split <;> rfl
@[simp] theorem abortList_inputs : (abortList s).inputs = s.inputs := by unfold abortList; split <;> rfl

@[simp] theorem abandonWrite_pinMap : (abandonWrite s).pinMap = s.pinMap := by unfold abandonWrite; split <;> rfl
@[simp] theorem abandonWrite_cfgAddr : (abandonWrite s).cfgAddr = s.cfgAddr := by unfold abandonWrite; split <;> rfl
@[simp] theorem abandonWrite_cfgN : (abandonWrite s).cfgN = s.cfgN := by unfold abandonWrite; split <;> rfl
@[simp] theorem abandonWrite_cfgF : (abandonWrite s).cfgF = s.cfgF := by unfold abandonWrite; split <;> rfl
@[simp] theorem abandonWrite_bl : (abandonWrite s).bl = s.bl := by unfold abandonWrite; split <;> rfl
@[simp] theorem abandonWrite_func : (abandonWrite s).func = s.func := by unfold abandonWrite; split <;> rfl
@[simp] theorem abandonWrite_dctl : (abandonWrite s).dctl = s.dctl := by unfold abandonWrite; split <;> rfl
@[simp] theorem abandonWrite_emode : (abandonWrite s).emode = s.emode := by unfold abandonWrite; split <;> rfl
@[simp] theorem abandonWrite_st : (abandonWrite s).st = s.st := by unfold abandonWrite; split <;> rfl
@[simp] theorem abandonWrite_act : (abandonWrite s).act = s.act := by unfold abandonWrite; split <;> rfl
@[simp] theorem abandonWrite_aix : (abandonWrite s).aix = s.aix := by unfold abandonWrite; split <;> rfl
@[simp] theorem abandonWrite_tmr : (abandonWrite s).tmr = s.tmr := by unfold abandonWrite; split <;> rfl
@[simp] theorem abandonWrite_req : (abandonWrite s).req = s.req := by unfold abandonWrite; split <;> rfl
@[simp] theorem abandonWrite_lastResp : (abandonWrite s).lastResp = s.lastResp := by unfold abandonWrite; split <;> rfl
@[simp] theorem abandonWrite_rsp : (abandonWrite s).rsp = s.rsp := by unfold abandonWrite; split <;> rfl
@[simp] theorem abandonWrite_rst : (abandonWrite s).rst = s.rst := by unfold abandonWrite; split <;> rfl
@[simp] theorem abandonWrite_cfgAddrPin : (abandonWrite s).cfgAddrPin = s.cfgAddrPin := by unfold abandonWrite; split <;> rfl
@[simp] theorem abandonWrite_cfgRowsPin : (abandonWrite s).cfgRowsPin = s.cfgRowsPin := by unfold abandonWrite; split <;> rfl
@[simp] theorem abandonWrite_cfgFontPin : (abandonWrite s).cfgFontPin = s.cfgFontPin := by unfold abandonWrite; split <;> rfl
@[simp] theorem abandonWrite_hostQueue : (abandonWrite s).hostQueue = s.hostQueue := by unfold abandonWrite; split <;> rfl
@[simp] theorem abandonWrite_answers : (abandonWrite s).answers = s.answers := by unfold abandonWrite; split <;> rfl
@[simp] theorem abandonWrite_inputs : (abandonWrite s).inputs = s.inputs := by unfold abandonWrite; split <;> rfl
@[simp] theorem abandonWrite_freeCount : (abandonWrite s).freeCount = s.freeCount := by unfold abandonWrite; split <;> rfl

end Sys2Proof.Machine
end

