-- ==== Sys2Proof/Laws/Ops.lean ====
section
/-! SUPPORT. What each shared operation can do, said once. -/

namespace Sys2Proof.Machine

open Sys2Proof.Config

/-- The effect of an accepted request in READY, one a constructor: what `dispatch` is given. -/
def requestEffect : Instr → State → State
  | .cmdClear => sendCommand clearByte [.wait tLong]
  | .cmdHome x => sendCommand (homeByte x) [.wait tLong]
  | .cmdEntryModeSet i sh => fun s => sendCommand (entryModeByte i sh) [] { s with emode := i ++ sh }
  | .cmdDisplayControl d c b => fun s => sendCommand (displayControlByte d c b) [] { s with dctl := d ++ (c ++ b) }
  | .cmdCursorShift c r x => sendCommand (cursorShiftByte c r x) []
  | .cmdFunctionSet n f x => fun s => sendCommand (functionSetByte 0 n f x) [] { s with func := 0#1 ++ (n ++ f) }
  | .cmdSetCgramAddr a => sendCommand (setCgramByte a) []
  | .cmdSetDdramAddr a => sendCommand (setDdramByte a) []
  | .data d => fun s => startList (send s.pinMap s.bl d 1) s
  | .setbl b => fun s => respond .ok { s with bl := b }
  | .illegalCmdZero => respond .errIllegal
  | .illegalFunctionSetDl1 _ => respond .errIllegal
  | .illegalSetbl _ _ => respond .errIllegal
  | .illegalOp _ => respond .errIllegal

/-- Every meaning is a dispatch of its effect. -/
theorem exec_eq_dispatch (i : Instr) (s : State) : exec i s = dispatch (requestEffect i) s := by
  cases i <;> rfl

/-- What a dispatch can do. -/
theorem dispatch_next {effect : State → State} {s t : State} (h : dispatch effect s = .next t) :
    (s.st = .fault ∧ t = respond .errFault s) ∨ (s.st = .ready ∧ t = effect s) ∨
      ((s.st = .init ∨ s.st = .exec) ∧ t = s) := by
  cases hst : s.st <;> simp_all [dispatch]

/-- A dispatch always answers a next state. -/
theorem dispatch_answers (effect : State → State) (s : State) : ∃ t, dispatch effect s = .next t := by
  cases hst : s.st <;> simp [dispatch, hst]

theorem dispatch_ready {s : State} (effect : State → State) (h : s.st = .ready) :
    dispatch effect s = .next (effect s) := by simp [dispatch, h]

theorem dispatch_fault {s : State} (effect : State → State) (h : s.st = .fault) :
    dispatch effect s = .next (respond .errFault s) := by simp [dispatch, h]

/-- What a request's effect leaves: the list's registers, the response's, `BL` and the shadows may change. -/
theorem requestEffect_frame (i : Instr) (s : State) :
    requestEffect i s =
      { s with
        st := (requestEffect i s).st, act := (requestEffect i s).act, aix := (requestEffect i s).aix
        tmr := (requestEffect i s).tmr, lastResp := (requestEffect i s).lastResp, rsp := (requestEffect i s).rsp
        events := (requestEffect i s).events, req := (requestEffect i s).req
        freeCount := (requestEffect i s).freeCount, bl := (requestEffect i s).bl, func := (requestEffect i s).func
        dctl := (requestEffect i s).dctl, emode := (requestEffect i s).emode } := by
  cases i <;> simp only [requestEffect, sendCommand] <;> rfl

/-- A list that begins with a write starts with the timer as it is. -/
theorem startList_write (b : Byte) (l : List Action) (s : State) :
    startList (.write b :: l) s = { s with st := .exec, act := .write b :: l, aix := 0 } := rfl

/-- What a started list leaves: all but `ST`, `ACT`, `AIX` and the timer. -/
theorem startList_frame (l : List Action) (s : State) :
    startList l s = { s with st := .exec, act := l, aix := 0, tmr := (startList l s).tmr } := by
  unfold startList armTimer; split <;> rfl

@[simp] theorem startList_pinMap (l : List Action) (s : State) : (startList l s).pinMap = s.pinMap := by
  rw [startList_frame]
@[simp] theorem startList_cfgAddr (l : List Action) (s : State) : (startList l s).cfgAddr = s.cfgAddr := by
  rw [startList_frame]
@[simp] theorem startList_cfgN (l : List Action) (s : State) : (startList l s).cfgN = s.cfgN := by
  rw [startList_frame]
@[simp] theorem startList_cfgF (l : List Action) (s : State) : (startList l s).cfgF = s.cfgF := by
  rw [startList_frame]
@[simp] theorem startList_bl (l : List Action) (s : State) : (startList l s).bl = s.bl := by
  rw [startList_frame]
@[simp] theorem startList_func (l : List Action) (s : State) : (startList l s).func = s.func := by
  rw [startList_frame]
@[simp] theorem startList_dctl (l : List Action) (s : State) : (startList l s).dctl = s.dctl := by
  rw [startList_frame]
@[simp] theorem startList_emode (l : List Action) (s : State) : (startList l s).emode = s.emode := by
  rw [startList_frame]
@[simp] theorem startList_req (l : List Action) (s : State) : (startList l s).req = s.req := by
  rw [startList_frame]
@[simp] theorem startList_lastResp (l : List Action) (s : State) : (startList l s).lastResp = s.lastResp := by
  rw [startList_frame]
@[simp] theorem startList_rsp (l : List Action) (s : State) : (startList l s).rsp = s.rsp := by
  rw [startList_frame]
@[simp] theorem startList_rst (l : List Action) (s : State) : (startList l s).rst = s.rst := by
  rw [startList_frame]
@[simp] theorem startList_cfgAddrPin (l : List Action) (s : State) : (startList l s).cfgAddrPin = s.cfgAddrPin := by
  rw [startList_frame]
@[simp] theorem startList_cfgRowsPin (l : List Action) (s : State) : (startList l s).cfgRowsPin = s.cfgRowsPin := by
  rw [startList_frame]
@[simp] theorem startList_cfgFontPin (l : List Action) (s : State) : (startList l s).cfgFontPin = s.cfgFontPin := by
  rw [startList_frame]
@[simp] theorem startList_hostQueue (l : List Action) (s : State) : (startList l s).hostQueue = s.hostQueue := by
  rw [startList_frame]
@[simp] theorem startList_answers (l : List Action) (s : State) : (startList l s).answers = s.answers := by
  rw [startList_frame]
@[simp] theorem startList_inputs (l : List Action) (s : State) : (startList l s).inputs = s.inputs := by
  rw [startList_frame]
@[simp] theorem startList_events (l : List Action) (s : State) : (startList l s).events = s.events := by
  rw [startList_frame]
@[simp] theorem startList_freeCount (l : List Action) (s : State) : (startList l s).freeCount = s.freeCount := by
  rw [startList_frame]
@[simp] theorem startList_st (l : List Action) (s : State) : (startList l s).st = .exec := by
  rw [startList_frame]
@[simp] theorem startList_act (l : List Action) (s : State) : (startList l s).act = l := by
  rw [startList_frame]
@[simp] theorem startList_aix (l : List Action) (s : State) : (startList l s).aix = 0 := by
  rw [startList_frame]

/-- What a shadow write leaves: all but the shadows. -/
theorem shadowWrite_frame (v : Byte) (s : State) :
    shadowWrite v s =
      { s with
        func := if cls v = .functionSet then functionSetField v else s.func
        dctl := if cls v = .displayControl then displayControlField v else s.dctl
        emode := if cls v = .entryModeSet then entryModeField v else s.emode } := by
  unfold shadowWrite; split <;> simp_all

/-- A shadow write has nothing to do exactly when the shadow of the byte's class holds its field. -/
theorem shadowWrite_fixed (v : Byte) (s : State) :
    shadowWrite v s = s ↔
      (cls v = .functionSet → s.func = functionSetField v) ∧
      (cls v = .displayControl → s.dctl = displayControlField v) ∧
      (cls v = .entryModeSet → s.emode = entryModeField v) := by
  constructor
  · intro h
    refine ⟨fun hc => ?_, fun hc => ?_, fun hc => ?_⟩ <;> rw [← h] <;> simp [shadowWrite, hc]
  · rintro ⟨hf, hd, he⟩
    unfold shadowWrite
    split <;> simp_all
    · rw [← he]
    · rw [← hd]
    · rw [← hf]

/-- A shadow write done twice is done once. -/
theorem shadowWrite_twice (v : Byte) (s : State) : shadowWrite v (shadowWrite v s) = shadowWrite v s := by
  rw [shadowWrite_fixed]
  refine ⟨fun hc => ?_, fun hc => ?_, fun hc => ?_⟩ <;> simp [shadowWrite, hc]

/-- What reaching an init step can change: in INIT, the shadow of the step that `AIX` has reached. -/
theorem initShadow_frame (s : State) :
    initShadow s =
      { s with
        func := if s.st = .init ∧ s.aix = 26 then 0#1 ++ (s.cfgN ++ s.cfgF) else s.func
        dctl := if s.st = .init ∧ s.aix = 36 then 0b100 else s.dctl
        emode := if s.st = .init ∧ s.aix = 57 then 0b10 else s.emode } := by
  unfold initShadow initFuncIndex initDctlIndex initEmodeIndex
  by_cases hi : s.st = .init
  · rw [if_pos hi]
    by_cases h1 : s.aix = 26
    · simp [hi, h1]
    · by_cases h2 : s.aix = 36
      · simp [hi, h2]
      · by_cases h3 : s.aix = 57
        · simp [hi, h3]
        · simp only [h1, h2, h3, if_false, and_false]
  · simp [hi]

/-- What completing an action before the list's end does. -/
theorem advance_within {s : State} (h : s.aix + 1 < s.act.length) :
    advance s = armTimer (initShadow (nextIndex s)) := if_pos h

/-- What completing the last action does. -/
theorem advance_end {s : State} (h : s.act.length ≤ s.aix + 1) :
    advance s = finishList (nextIndex s) := if_neg (Nat.not_lt.mpr h)

/-- What completing an action leaves, field by field. -/
theorem advance_frame (s : State) :
    advance s =
      { s with
        aix := s.aix + 1, func := (advance s).func, dctl := (advance s).dctl, emode := (advance s).emode
        st := (advance s).st, tmr := (advance s).tmr, req := (advance s).req, lastResp := (advance s).lastResp
        rsp := (advance s).rsp, events := (advance s).events, freeCount := (advance s).freeCount } := by
  by_cases h : s.aix + 1 < s.act.length
  · rw [advance_within h]
    unfold armTimer initShadow; repeat (first | rfl | split)
  · rw [advance_end (Nat.not_lt.mp h)]
    unfold finishList; split <;> rfl

@[simp] theorem advance_pinMap (s : State) : (advance s).pinMap = s.pinMap := by rw [advance_frame]
@[simp] theorem advance_cfgAddr (s : State) : (advance s).cfgAddr = s.cfgAddr := by rw [advance_frame]
@[simp] theorem advance_cfgN (s : State) : (advance s).cfgN = s.cfgN := by rw [advance_frame]
@[simp] theorem advance_cfgF (s : State) : (advance s).cfgF = s.cfgF := by rw [advance_frame]
@[simp] theorem advance_bl (s : State) : (advance s).bl = s.bl := by rw [advance_frame]
@[simp] theorem advance_act (s : State) : (advance s).act = s.act := by rw [advance_frame]
@[simp] theorem advance_rst (s : State) : (advance s).rst = s.rst := by rw [advance_frame]
@[simp] theorem advance_cfgAddrPin (s : State) : (advance s).cfgAddrPin = s.cfgAddrPin := by rw [advance_frame]
@[simp] theorem advance_cfgRowsPin (s : State) : (advance s).cfgRowsPin = s.cfgRowsPin := by rw [advance_frame]
@[simp] theorem advance_cfgFontPin (s : State) : (advance s).cfgFontPin = s.cfgFontPin := by rw [advance_frame]
@[simp] theorem advance_hostQueue (s : State) : (advance s).hostQueue = s.hostQueue := by rw [advance_frame]
@[simp] theorem advance_answers (s : State) : (advance s).answers = s.answers := by rw [advance_frame]
@[simp] theorem advance_inputs (s : State) : (advance s).inputs = s.inputs := by rw [advance_frame]
@[simp] theorem advance_aix (s : State) : (advance s).aix = s.aix + 1 := by rw [advance_frame]

/-- What completing an action does to the shadows: the one of an init step that `AIX` reaches is written. -/
theorem advance_shadows (s : State) :
    (advance s).func =
      (if s.st = .init ∧ s.aix + 1 < s.act.length ∧ s.aix + 1 = 26 then 0#1 ++ (s.cfgN ++ s.cfgF) else s.func) ∧
    (advance s).dctl = (if s.st = .init ∧ s.aix + 1 < s.act.length ∧ s.aix + 1 = 36 then 0b100 else s.dctl) ∧
    (advance s).emode = (if s.st = .init ∧ s.aix + 1 < s.act.length ∧ s.aix + 1 = 57 then 0b10 else s.emode) := by
  by_cases h : s.aix + 1 < s.act.length
  · rw [advance_within h, initShadow_frame]
    simp [h]
  · rw [advance_end (Nat.not_lt.mp h)]
    simp [h]

/-- What one step of the executor can do. -/
theorem executorStep_cases (s : State) :
    (s.act[s.aix]? = none ∧ executorStep s = finishList s) ∨
    (∃ b, s.act[s.aix]? = some (.write b) ∧
      ((s.answers = [] ∧ executorStep s = s) ∨
       (∃ rest, s.answers = .ok :: rest ∧
          executorStep s = advance (logEvent (.write s.cfgAddr b .ok) (takeAnswer rest s))) ∨
       (∃ rest, s.answers = .err :: rest ∧
          executorStep s = abortList (logEvent (.write s.cfgAddr b .err) (takeAnswer rest s))))) ∨
    (∃ t, s.act[s.aix]? = some (.wait t) ∧
      ((s.tmr = 0 ∧ executorStep s = advance (logEvent (.wait t) s)) ∨
       (s.tmr ≠ 0 ∧ executorStep s = countDown s))) := by
  unfold executorStep
  rcases h : s.act[s.aix]? with _ | ⟨b | t⟩
  · exact .inl ⟨rfl, rfl⟩
  · refine .inr (.inl ⟨b, rfl, ?_⟩)
    rcases ha : s.answers with _ | ⟨a, rest⟩
    · exact .inl ⟨rfl, by simp [writeAction, ha]⟩
    · cases a
      · exact .inr (.inl ⟨rest, rfl, by simp [writeAction, ha]⟩)
      · exact .inr (.inr ⟨rest, rfl, by simp [writeAction, ha]⟩)
  · refine .inr (.inr ⟨t, rfl, ?_⟩)
    by_cases h0 : s.tmr = 0
    · exact .inl ⟨h0, if_pos h0⟩
    · exact .inr ⟨h0, if_neg h0⟩

/-- What one step of the executor leaves, field by field. -/
theorem executorStep_frame (s : State) :
    executorStep s =
      { s with
        aix := (executorStep s).aix, func := (executorStep s).func, dctl := (executorStep s).dctl
        emode := (executorStep s).emode, st := (executorStep s).st, tmr := (executorStep s).tmr
        req := (executorStep s).req, lastResp := (executorStep s).lastResp, rsp := (executorStep s).rsp
        answers := (executorStep s).answers, events := (executorStep s).events
        freeCount := (executorStep s).freeCount } := by
  rcases executorStep_cases s with ⟨_, h⟩ | ⟨b, _, ⟨_, h⟩ | ⟨r, _, h⟩ | ⟨r, _, h⟩⟩ | ⟨t, _, ⟨_, h⟩ | ⟨_, h⟩⟩ <;> rw [h]
  · unfold finishList; split <;> rfl
  · rw [advance_frame]; rfl
  · unfold abortList; split <;> rfl
  · rw [advance_frame]; rfl
  · rfl

@[simp] theorem executorStep_pinMap (s : State) : (executorStep s).pinMap = s.pinMap := by rw [executorStep_frame]
@[simp] theorem executorStep_cfgAddr (s : State) : (executorStep s).cfgAddr = s.cfgAddr := by rw [executorStep_frame]
@[simp] theorem executorStep_cfgN (s : State) : (executorStep s).cfgN = s.cfgN := by rw [executorStep_frame]
@[simp] theorem executorStep_cfgF (s : State) : (executorStep s).cfgF = s.cfgF := by rw [executorStep_frame]
@[simp] theorem executorStep_bl (s : State) : (executorStep s).bl = s.bl := by rw [executorStep_frame]
@[simp] theorem executorStep_act (s : State) : (executorStep s).act = s.act := by rw [executorStep_frame]
@[simp] theorem executorStep_rst (s : State) : (executorStep s).rst = s.rst := by rw [executorStep_frame]
@[simp] theorem executorStep_cfgAddrPin (s : State) : (executorStep s).cfgAddrPin = s.cfgAddrPin := by rw [executorStep_frame]
@[simp] theorem executorStep_cfgRowsPin (s : State) : (executorStep s).cfgRowsPin = s.cfgRowsPin := by rw [executorStep_frame]
@[simp] theorem executorStep_cfgFontPin (s : State) : (executorStep s).cfgFontPin = s.cfgFontPin := by rw [executorStep_frame]
@[simp] theorem executorStep_hostQueue (s : State) : (executorStep s).hostQueue = s.hostQueue := by rw [executorStep_frame]
@[simp] theorem executorStep_inputs (s : State) : (executorStep s).inputs = s.inputs := by rw [executorStep_frame]

end Sys2Proof.Machine
end

