-- ==== Sys2Proof/Laws/PerInstr.lean ====
section
/-! SUPPORT. Statements made for every instruction, one lemma a constructor. -/

namespace Sys2Proof.Laws.DecodeEncode

/-- Decoding the instruction's word gives the instruction back. -/
def Statement (i : Instr) : Prop := i.wf = true → decode (encode i) = i

theorem cmdClear : Statement .cmdClear := by unfold Statement; decide
theorem cmdHome (x : Bit) : Statement (.cmdHome x) := by unfold Statement; revert x; decide
theorem cmdEntryModeSet (i s : Bit) : Statement (.cmdEntryModeSet i s) := by unfold Statement; revert i s; decide
theorem cmdDisplayControl (d c b : Bit) : Statement (.cmdDisplayControl d c b) := by
  unfold Statement; revert d c b; decide
theorem cmdCursorShift (c r : Bit) (x : BitVec 2) : Statement (.cmdCursorShift c r x) := by
  unfold Statement; revert c r x; decide
theorem cmdFunctionSet (n f : Bit) (x : BitVec 2) : Statement (.cmdFunctionSet n f x) := by
  unfold Statement; revert n f x; decide
theorem cmdSetCgramAddr (a : BitVec 6) : Statement (.cmdSetCgramAddr a) := by unfold Statement; revert a; decide
theorem cmdSetDdramAddr (a : BitVec 7) : Statement (.cmdSetDdramAddr a) := by unfold Statement; revert a; decide
theorem data (d : Byte) : Statement (.data d) := by unfold Statement; revert d; decide
theorem setbl (b : Bit) : Statement (.setbl b) := by unfold Statement; revert b; decide
theorem illegalCmdZero : Statement .illegalCmdZero := by unfold Statement; decide
theorem illegalFunctionSetDl1 (x : BitVec 4) : Statement (.illegalFunctionSetDl1 x) := by
  unfold Statement; revert x; decide
theorem illegalSetbl (p : BitVec 7) (low : Bit) : Statement (.illegalSetbl p low) := by
  unfold Statement; revert p low; decide
theorem illegalOp (x : Byte) : Statement (.illegalOp x) := by unfold Statement; revert x; decide

end Sys2Proof.Laws.DecodeEncode
end

