-- ==== Sys2Proof/Laws/Step.lean ====
section
/-! SUPPORT. What one step of the machine can do, said once. -/

namespace Sys2Proof.Machine

open Sys2Proof.Config

/-- What the request port can do when it is ready: be idle, or accept and run the word on it. -/
theorem requestStep_next {s t : State} (h : requestStep s = .next t) :
    (s.hostQueue = [] ∧ t = s) ∨
    (∃ w rest, s.hostQueue = w :: rest ∧ exec (decode w) (accept w rest s) = .next t) := by
  unfold requestStep at h
  rcases hq : s.hostQueue with _ | ⟨w, rest⟩
  · rw [hq] at h; exact .inl ⟨rfl, by cases h; rfl⟩
  · rw [hq] at h; exact .inr ⟨w, rest, rfl, h⟩

/-- What one step of the block can do. -/
theorem blockStep_next {s t : State} (h : blockStep s = .next t) :
    (s.rst = true ∧ t = s) ∨
    (s.rst = false ∧ s.rsp ≠ none ∧ t = endPulse s) ∨
    (s.rst = false ∧ s.rsp = none ∧ (s.st = .init ∨ s.st = .exec) ∧ t = executorStep s) ∨
    (s.rst = false ∧ s.rsp = none ∧ (s.st = .ready ∨ s.st = .fault) ∧ s.hostQueue = [] ∧ t = s) ∨
    (∃ w rest, s.rst = false ∧ s.rsp = none ∧ (s.st = .ready ∨ s.st = .fault) ∧ s.hostQueue = w :: rest ∧
      exec (decode w) (accept w rest s) = .next t) := by
  unfold blockStep at h
  by_cases hr : s.rst = true
  · rw [if_pos hr] at h
    exact .inl ⟨hr, by cases h; rfl⟩
  rw [if_neg hr] at h
  have hr' : s.rst = false := by simpa using hr
  by_cases hp : s.rsp ≠ none
  · rw [if_pos hp] at h
    exact .inr (.inl ⟨hr', hp, by cases h; rfl⟩)
  rw [if_neg hp] at h
  have hp' : s.rsp = none := by simpa using hp
  cases hst : s.st <;> rw [hst] at h
  case init => exact .inr (.inr (.inl ⟨hr', hp', .inl rfl, by cases h; rfl⟩))
  case exec => exact .inr (.inr (.inl ⟨hr', hp', .inr rfl, by cases h; rfl⟩))
  all_goals
    rcases requestStep_next h with ⟨hq, ht⟩ | ⟨w, rest, hq, he⟩
    · exact .inr (.inr (.inr (.inl ⟨hr', hp', by simp, hq, ht⟩)))
    · exact .inr (.inr (.inr (.inr ⟨w, rest, hr', hp', by simp, hq, he⟩)))

/-- The pin event that is due stands at the head of the list with no delay. -/
theorem dueInput_some {s s1 : State} {e : Input} (h : dueInput s = some (e, s1)) :
    ∃ rest, s.inputs = (0, e) :: rest ∧ s1 = takeInput rest s := by
  unfold dueInput at h
  split at h <;> simp_all

/-- A pin event at the head of the list with no delay is due. -/
theorem dueInput_head {s : State} {e : Input} {rest : List (Nat × Input)} (h : s.inputs = (0, e) :: rest) :
    dueInput s = some (e, takeInput rest s) := by
  simp [dueInput, h]

theorem dueInput_nil {s : State} (h : s.inputs = []) : dueInput s = none := by simp [dueInput, h]

theorem tickInputs_nil {s : State} (h : s.inputs = []) : tickInputs s = s := by simp [tickInputs, h]

/-- A tick changes the pin events' delays only. -/
theorem tickInputs_frame (s : State) : tickInputs s = { s with inputs := (tickInputs s).inputs } := by
  unfold tickInputs; split <;> rfl

/-- One step is the pin event that is due, or a step of the block. -/
theorem step_next {s t : State} (h : step s = .next t) :
    (∃ e rest, s.inputs = (0, e) :: rest ∧ applyInput e (takeInput rest s) = .next t) ∨
    (dueInput s = none ∧ blockStep (tickInputs s) = .next t) := by
  unfold step machineStep at h
  rcases hd : dueInput s with _ | ⟨e, s1⟩
  · rw [hd] at h; exact .inr ⟨rfl, h⟩
  · rw [hd] at h
    obtain ⟨rest, hi, rfl⟩ := dueInput_some hd
    exact .inl ⟨e, rest, hi, h⟩

/-- A word that the request port accepts is accepted by this step, and is answered ERR_FAULT in FAULT or has its effect
in READY. -/
theorem accepted_next {s t : State} {w : ReqWord} {rest : List ReqWord} (hd : dueInput s = none) (hr : s.rst = false)
    (hp : s.rsp = none) (hst : s.st = .ready ∨ s.st = .fault) (hq : s.hostQueue = w :: rest)
    (he : exec (decode w) (accept w rest (tickInputs s)) = .next t) :
    (dueInput s = none ∧ s.rst = false ∧ reqReady s = true ∧ s.hostQueue.head? = some w) ∧
    ((s.st = .fault ∧ t = respond .errFault (accept w rest (tickInputs s))) ∨
      (s.st = .ready ∧ t = requestEffect (decode w) (accept w rest (tickInputs s)))) := by
  refine ⟨⟨hd, hr, by rcases hst with h | h <;> simp [reqReady, h, hp], by simp [hq]⟩, ?_⟩
  rw [exec_eq_dispatch] at he
  rcases dispatch_next he with ⟨hf, ht⟩ | ⟨hf, ht⟩ | ⟨hf, -⟩
  · exact .inl ⟨by simpa using hf, ht⟩
  · exact .inr ⟨by simpa using hf, ht⟩
  · rcases hst with h | h <;> simp [h] at hf

/-- With no pin event on its way a step is a step of the block. -/
theorem step_no_inputs {s : State} (h : s.inputs = []) : step s = blockStep s := by
  simp [step, machineStep, dueInput_nil h, tickInputs_nil h]

/-- What a release of reset can do. -/
theorem releaseReset_cases (s : State) :
    (s.rst = false ∧ releaseReset s = .next s) ∨
    (s.rst = true ∧ s.cfgRowsPin = 0 ∧ releaseReset s = .refused .cfgRowsZero) ∨
    (s.rst = true ∧ s.cfgRowsPin ≠ 0 ∧
      releaseReset s =
        .next (setRst false (resetRegs s.cfgAddrPin (lineBit s.cfgRowsPin) s.cfgFontPin s))) := by
  cases hr : s.rst
  · exact .inl ⟨rfl, by simp [releaseReset, hr]⟩
  · by_cases h0 : s.cfgRowsPin = 0
    · exact .inr (.inl ⟨rfl, h0, by unfold releaseReset; rw [hr, if_neg (by decide), if_pos h0]⟩)
    · exact .inr (.inr ⟨rfl, h0, by unfold releaseReset; rw [hr, if_neg (by decide), if_neg h0]⟩)

/-- What a pin event can do. -/
theorem applyInput_next {e : Input} {s t : State} (h : applyInput e s = .next t) :
    (e = .assertReset ∧ t = assertReset s) ∨
    (e = .releaseReset ∧ s.rst = false ∧ t = s) ∨
    (e = .releaseReset ∧ s.rst = true ∧ s.cfgRowsPin ≠ 0 ∧
      t = setRst false (resetRegs s.cfgAddrPin (lineBit s.cfgRowsPin) s.cfgFontPin s)) ∨
    (∃ a r f, e = .setConfig a r f ∧ t = setPins a r f s) ∨
    (∃ w, e = .request w ∧ t = addRequest w s) ∨
    (∃ a, e = .answer a ∧ t = addAnswer a s) := by
  cases e with
  | assertReset => simp_all [applyInput]
  | releaseReset =>
    rcases releaseReset_cases s with ⟨hr, he⟩ | ⟨hr, h0, he⟩ | ⟨hr, h0, he⟩ <;> simp_all [applyInput]
  | setConfig a r f => simp_all [applyInput]
  | request w => simp_all [applyInput]
  | answer a => simp_all [applyInput]

/-- R130: `State.resetWith` is what the step that releases an asserted reset leaves, with these pins. -/
theorem step_release_resetWith (pm : PinMap) (addr : I2cAddr) (rows : BitVec 8) (font : Bit) (h : rows ≠ 0) :
    step { State.resetWith pm addr rows font h with rst := true, inputs := [(0, .releaseReset)] } =
      .next (State.resetWith pm addr rows font h) := by
  show releaseReset { State.resetWith pm addr rows font h with rst := true } = _
  rcases releaseReset_cases { State.resetWith pm addr rows font h with rst := true } with
    ⟨hr, -⟩ | ⟨-, h0, -⟩ | ⟨-, -, he⟩
  · exact absurd hr (by simp)
  · exact absurd h0 h
  · rw [he]; rfl

/-- The host's run of the machine, one step unfolded. -/
theorem run_succ (n : Nat) {s t : State} (h : step s = .next t) :
    Host.Core.run Sys2Proof.core (n + 1) s = Host.Core.run Sys2Proof.core n t := by
  have h' : Sys2Proof.core.step s = .next t := h
  simp [Host.Core.run, h']

end Sys2Proof.Machine
end

