-- ==== Sys2Proof/Tests/Slice0.lean ====
section
/-! SUPPORT. Tests of the model against words and lists written out from the spec, and for every statement with
hypotheses a state and operands that meet them. -/

namespace Sys2Proof.Tests

open Sys2Proof.Machine Sys2Proof.Config

/-! ## Well-formedness, decoding and encoding -/

theorem test_wf_refuses_setbl_zero : Instr.wf (.illegalSetbl 0 1) = false := by decide
theorem test_wf_accepts_illegal_setbl : Instr.wf (.illegalSetbl 0x7F 0) = true := by decide

/-! The words are written bit by bit from the patterns of spec/30_encoding.md R55. -/

theorem test_decode_cmdClear : decode 0b0000000001 = .cmdClear := by decide
theorem test_decode_cmdHome : decode 0b0000000011 = .cmdHome 1 := by decide
theorem test_decode_cmdEntryModeSet : decode 0b0000000110 = .cmdEntryModeSet 1 0 := by decide
theorem test_decode_cmdDisplayControl : decode 0b0000001110 = .cmdDisplayControl 1 1 0 := by decide
theorem test_decode_cmdCursorShift : decode 0b0000011001 = .cmdCursorShift 1 0 0b01 := by decide
theorem test_decode_cmdFunctionSet : decode 0b0000101010 = .cmdFunctionSet 1 0 0b10 := by decide
theorem test_decode_cmdSetCgramAddr : decode 0b0001100001 = .cmdSetCgramAddr 0b100001 := by decide
theorem test_decode_cmdSetDdramAddr : decode 0b0011000001 = .cmdSetDdramAddr 0b1000001 := by decide
theorem test_decode_data : decode 0b0110000001 = .data 0x81 := by decide
theorem test_decode_setbl : decode 0b1000000001 = .setbl 1 := by decide
theorem test_decode_illegalCmdZero : decode 0b0000000000 = .illegalCmdZero := by decide
theorem test_decode_illegalFunctionSetDl1 : decode 0b0000111000 = .illegalFunctionSetDl1 0b1000 := by decide
theorem test_decode_illegalSetbl : decode 0b1010000001 = .illegalSetbl 0b1000000 1 := by decide
theorem test_decode_illegalOp : decode 0b1110000001 = .illegalOp 0x81 := by decide

theorem test_decodeTableWord_home : decodeTableWord 16 0x0003 = some (.cmdHome 1) := by decide
theorem test_decodeTableWord_wide : decodeTableWord 16 0x0400 = none := by decide
theorem test_decodeBytes_truncated : decodeBytes [0x01] = .error .truncated := by rfl

/-! ## One request, from READY

`ready` is the state after an initialization with four rows and 5x8 dots (spec/95_test_vectors.md), with the answers and
the requests given. -/

/-- The state after initialization (R111). -/
def ready (answers : List BusAnswer) (queue : List ReqWord) : State :=
  { State.reset with
    st := .ready, func := 0b010, dctl := 0b100, emode := 0b10, aix := 67, hostQueue := queue, answers := answers }

/-- The state after a failed initialization (R112). -/
def failed (queue : List ReqWord) : State :=
  { State.reset with st := .fault, lastResp := .errTransport, hostQueue := queue }

/-- The state an instruction leads to. -/
def after (i : Instr) (s : State) : State :=
  match exec i s with
  | .next t => t
  | .fault _ => s
  | .refused _ => s

/-- The state a step leads to. -/
def stepped (s : State) : State :=
  match step s with
  | .next t => t
  | .fault _ => s
  | .refused _ => s

/-- The list and the sequencer state an instruction leads to from READY. -/
def started (i : Instr) : List Action × SeqState := ((after i (ready [] [])).act, (after i (ready [] [])).st)

/-! Lists: the examples of spec/42_commands.md R91 to R98 and spec/41_requests.md R85. -/

theorem test_cmdClear : started .cmdClear =
    ([.write 0x08, .write 0x0C, .wait 1, .write 0x08, .wait 50, .write 0x18, .write 0x1C, .wait 1, .write 0x18, .wait 50,
      .wait 2000], .exec) := by decide
theorem test_cmdHome : started (.cmdHome 0) =
    ([.write 0x08, .write 0x0C, .wait 1, .write 0x08, .wait 50, .write 0x28, .write 0x2C, .wait 1, .write 0x28, .wait 50,
      .wait 2000], .exec) := by decide
theorem test_cmdHome_dontcare_bit : (started (.cmdHome 1)).1.getLast? = some (.wait 2000) := by decide
theorem test_cmdEntryModeSet : started (.cmdEntryModeSet 1 0) =
    ([.write 0x08, .write 0x0C, .wait 1, .write 0x08, .wait 50, .write 0x68, .write 0x6C, .wait 1, .write 0x68, .wait 50],
      .exec) := by decide
theorem test_cmdEntryModeSet_shadow : (after (.cmdEntryModeSet 0 1) (ready [] [])).emode = 0b01 := by decide
theorem test_cmdDisplayControl : started (.cmdDisplayControl 1 0 0) =
    ([.write 0x08, .write 0x0C, .wait 1, .write 0x08, .wait 50, .write 0xC8, .write 0xCC, .wait 1, .write 0xC8, .wait 50],
      .exec) := by decide
theorem test_cmdDisplayControl_shadow : (after (.cmdDisplayControl 0 1 1) (ready [] [])).dctl = 0b011 := by decide
theorem test_cmdCursorShift : started (.cmdCursorShift 1 0 0) =
    ([.write 0x18, .write 0x1C, .wait 1, .write 0x18, .wait 50, .write 0x88, .write 0x8C, .wait 1, .write 0x88, .wait 50],
      .exec) := by decide
theorem test_cmdFunctionSet : started (.cmdFunctionSet 1 0 0) =
    ([.write 0x28, .write 0x2C, .wait 1, .write 0x28, .wait 50, .write 0x88, .write 0x8C, .wait 1, .write 0x88, .wait 50],
      .exec) := by decide
theorem test_cmdFunctionSet_shadow : (after (.cmdFunctionSet 0 1 0b11) (ready [] [])).func = 0b001 := by decide
theorem test_cmdSetCgramAddr : started (.cmdSetCgramAddr 8) =
    ([.write 0x48, .write 0x4C, .wait 1, .write 0x48, .wait 50, .write 0x88, .write 0x8C, .wait 1, .write 0x88, .wait 50],
      .exec) := by decide
theorem test_cmdSetDdramAddr : started (.cmdSetDdramAddr 0x40) =
    ([.write 0xC8, .write 0xCC, .wait 1, .write 0xC8, .wait 50, .write 0x08, .write 0x0C, .wait 1, .write 0x08, .wait 50],
      .exec) := by decide
theorem test_data : started (.data 0x41) =
    ([.write 0x49, .write 0x4D, .wait 1, .write 0x49, .wait 50, .write 0x19, .write 0x1D, .wait 1, .write 0x19, .wait 50],
      .exec) := by decide
/-- R86: SETBL 0 and then DATA 0x41, its list without the backlight bit. -/
theorem test_data_backlight_off : (after (.data 0x41) { ready [] [] with bl := 0 }).act =
    [.write 0x41, .write 0x45, .wait 1, .write 0x41, .wait 50, .write 0x11, .write 0x15, .wait 1, .write 0x11, .wait 50] :=
  by decide

/-- What a request with no list leaves of READY: the response, `BL`, `ST` and the events. -/
def answered (i : Instr) : Option RespCode × Bit × SeqState × List Event :=
  let t := after i (ready [] [])
  (t.rsp, t.bl, t.st, t.events)

theorem test_setbl : answered (.setbl 0) = (some .ok, 0, .ready, [.resp .ok]) := by decide
theorem test_setbl_in_fault : (after (.setbl 0) (failed [])).bl = 1 := by decide
theorem test_illegalCmdZero : answered .illegalCmdZero = (some .errIllegal, 1, .ready, [.resp .errIllegal]) := by decide
theorem test_illegalFunctionSetDl1 :
    answered (.illegalFunctionSetDl1 0) = (some .errIllegal, 1, .ready, [.resp .errIllegal]) := by decide
theorem test_illegalSetbl : answered (.illegalSetbl 1 0) = (some .errIllegal, 1, .ready, [.resp .errIllegal]) := by decide
theorem test_illegalOp : answered (.illegalOp 0xFF) = (some .errIllegal, 1, .ready, [.resp .errIllegal]) := by decide
/-- R116: `0x3FF` in FAULT is ERR_FAULT, not ERR_ILLEGAL. -/
theorem test_illegalOp_in_fault : (after (.illegalOp 0xFF) (failed [])).rsp = some .errFault := by decide

/-! ## One step -/

/-- The very next step after placing a word at reset runs it. -/
theorem test_withFetchWord_runs :
    (stepped (State.reset.withFetchWord 16 0x0141)).act.head? = some (.write 0x49) := by decide
theorem test_withFetchWord_illegal :
    (stepped (State.reset.withFetchWord 16 0x03FF)).rsp = some .errIllegal := by decide

/-- Initialization at an index of its list, with the answers given. -/
def inInit (aix : Nat) (answers : List BusAnswer) : State := { State.reset with aix := aix, answers := answers }

theorem test_init_first_write : (stepped (inInit 0 [.ok])).events = [.write 0x27 0x08 .ok] := by decide
/-- R108: when `AIX` reaches 26 the function-set shadow is written; the action before it is the wait of 1 ms. -/
theorem test_init_func_shadow : (stepped (inInit 25 [])).func = 0b010 := by decide
theorem test_init_failure : (stepped (inInit 2 [.err])).st = .fault := by decide
theorem test_init_end : (stepped (inInit 66 [])).st = .ready := by decide
/-- R28: LAST_RESP 1 and FAULT, with the backlight. -/
theorem test_status_after_failure : status (stepped (inInit 0 [.err])) = 0x0017 := by decide
theorem test_reset_status : status State.reset = 0x0010 := by decide
/-- D21, U6: a model refuses a configuration with no rows. -/
theorem test_rows_zero_refused :
    step { State.reset with rst := true, cfgRowsPin := 0, inputs := [(0, .releaseReset)] } = .refused .cfgRowsZero := by
  rfl

/-! ## The assembler -/

/-- R59: `DATA 'A'` is `0x141`. -/
theorem test_assemble_character :
    assembleLine ['D', 'A', 'T', 'A', ' ', quoteChar, 'A', quoteChar, ' ', ';', ' ', 'x'] = .ok (some 0x141) := by rfl
theorem test_assemble_hex : assembleLine ['C', 'M', 'D', ' ', '0', 'x', '0', 'C'] = .ok (some 0x00C) := by rfl
theorem test_assemble_range : assembleLine ['S', 'E', 'T', 'B', 'L', ' ', '2'] = .error .operand := by rfl
/-- R67: `SETCGRAM 9` is `CMD 0x48`. -/
theorem test_setcgram : expandSetCgram 9 = 0x048 := by decide
/-- R66: rows past the last are clamped; 20 columns, row 3 starts at 0x54. -/
theorem test_setcursor : expandSetCursor 20 4 0 9 = 0x0D4 := by decide

/-! ## Witnesses: for each statement with hypotheses, a state and operands that meet them -/

/-- A request's list, just started with every answer it needs. -/
def running10 : State := after (.data 0x41) (ready (List.replicate 6 .ok) [])

/-- The hypotheses of `RunsToEnd`, for a list of ten actions. -/
theorem witness_RunsToEnd : running10.Quiet ∧ running10.st = .exec ∧
    running10.answers = List.replicate (writeCount running10.act) .ok ++ [] ∧
    (runList running10.cfgAddr running10.act running10.answers).isSome = true :=
  ⟨⟨rfl, rfl, rfl⟩, rfl, rfl, rfl⟩
/-- The same with a write that fails. -/
theorem witness_RunsToEnd_error :
    let u := after (.data 0x41) (ready [.ok, .err] [])
    u.Quiet ∧ (runList u.cfgAddr u.act u.answers).map (·.finished) = some false :=
  ⟨⟨rfl, rfl, rfl⟩, rfl⟩

theorem witness_ClearAndHomeSendAndWaitLong : (ready [] []).st = .ready := rfl
theorem witness_EntryModeSetWritesEmodeAndSends : (ready [] []).st = .ready := rfl
theorem witness_DisplayControlWritesDctlAndSends : (ready [] []).st = .ready := rfl
theorem witness_FunctionSetWritesFuncAndSends :
    (ready [] []).st = .ready ∧ (ready [] [0x020]).func.extractLsb' 2 1 = 0 ∧ ∃ t, step (ready [] [0x020]) = .next t :=
  ⟨rfl, by decide, _, rfl⟩
theorem witness_ShiftAndAddressCommandsOnlySend : (ready [] []).st = .ready := rfl
theorem witness_DataSendsWithRegisterSelect : (ready [] []).st = .ready := rfl
theorem witness_SetblWritesBacklightAndAnswersOk :
    (ready [] []).st = .ready ∧ (0x40 : BitVec 7) ≠ 0 ∧ (failed []).st = .fault := ⟨rfl, by decide, rfl⟩
/-- Each of the four kinds of illegal words, and a legal one, at the ends of their ranges. -/
theorem witness_IllegalWordsAreRefusedWithNoWrite :
    (ready [] []).st = .ready ∧
    (illegal 0x300 && illegal 0x3FF && illegal 0x202 && illegal 0x2FF && illegal 0x000 && illegal 0x030 && illegal 0x03F) ∧
    (illegal 0x201 || illegal 0x1FF || illegal 0x001 || illegal 0x02F || illegal 0x040) = false := by decide
theorem witness_IllegalInstructionsAnswerErrIllegal :
    (ready [] []).st = .ready ∧ (Instr.illegalOp 0xFF = .illegalCmdZero ∨ (∃ x, Instr.illegalOp 0xFF = .illegalFunctionSetDl1 x) ∨
      (∃ p low, Instr.illegalOp 0xFF = .illegalSetbl p low) ∨ ∃ x, Instr.illegalOp 0xFF = .illegalOp x) :=
  ⟨rfl, .inr (.inr (.inr ⟨_, rfl⟩))⟩
theorem witness_EveryRequestInFaultAnswersErrFault : (failed []).st = .fault := rfl
theorem witness_MeaningsAgreeWithDispatchByWord :
    ((ready [] []).st = .ready ∨ (ready [] []).st = .fault) ∧ ((failed []).st = .ready ∨ (failed []).st = .fault) :=
  ⟨.inl rfl, .inr rfl⟩
/-- A request's list that runs to its end, and one that a failed write ends. -/
theorem witness_RequestRunRefinesListRun :
    let s := ready (List.replicate 6 .ok) [0x00C]
    let e := ready [.ok, .ok, .err] [0x00C]
    s.Quiet ∧ s.st = .ready ∧ e.Quiet ∧ e.st = .ready ∧
    (∃ l r, requestList s.pinMap s.bl 0x00C = some l ∧ runList s.cfgAddr l s.answers = some r ∧ r.finished = true) ∧
    ∃ l r, requestList e.pinMap e.bl 0x00C = some l ∧ runList e.cfgAddr l e.answers = some r ∧ r.finished = false :=
  ⟨⟨rfl, rfl, rfl⟩, rfl, ⟨rfl, rfl, rfl⟩, rfl, ⟨_, _, rfl, rfl, rfl⟩, ⟨_, _, rfl, rfl, rfl⟩⟩
theorem witness_DecodeEncodeRoundTrip : Instr.wf (.illegalSetbl 1 0) = true := by decide
theorem witness_EnablePulsesAreTimed : defaultPinMap.wf = true ∧ (requestList defaultPinMap 1 0x141).isSome = true :=
  ⟨rfl, rfl⟩
theorem witness_InitListCounts : defaultPinMap.wf = true := rfl
/-- A word of each kind that the table of R140 tells apart. -/
theorem witness_ListCountsAndMinimumWaits :
    (illegal 0x001 = false ∧ opOf 0x001 = 0b00 ∧ cls (argOf 0x001) = .clear) ∧
    (illegal 0x00C = false ∧ opOf 0x00C = 0b00 ∧ cls (argOf 0x00C) = .displayControl) ∧
    opOf 0x141 = 0b01 ∧ opOf 0x201 = 0b10 ∧ illegal 0x3FF = true := by decide
theorem witness_LongWaitExactlyAfterClearAndHome :
    (requestList defaultPinMap 1 0x003).isSome = true ∧ (requestList defaultPinMap 1 0x004).isSome = true := ⟨rfl, rfl⟩
theorem witness_NibbleTransfersComeInPairs :
    defaultPinMap.wf = true ∧ (requestList defaultPinMap 1 0x141).isSome = true := ⟨rfl, rfl⟩
theorem witness_WaitsFitTheTimer :
    Action.wait 20000 ∈ initList defaultPinMap 1 1 0 ∧
    ∃ l, requestList defaultPinMap 1 0x001 = some l ∧ Action.wait 2000 ∈ l :=
  ⟨by decide, _, rfl, by decide⟩
theorem witness_ConformanceOnlyLengthensTheGaps :
    Conforms [.wait 50, .wait 1000, .resp .ok] [.wait 1060, .resp .ok] :=
  .single (.merge [] [.resp .ok] 50 1000 1060 (by decide))

/-- A request's list at its first wait, the timer running. -/
def atWait : State := { running10 with aix := 2, tmr := 1 }

/-- A wait within a list, a wait that ends a request's list, and the one that ends the initialization list. -/
theorem witness_EveryWaitEndsWithOneEvent :
    let e := { running10 with aix := 9, tmr := 50 }
    let i := inInit 66 []
    (atWait.Quiet ∧ atWait.act[atWait.aix]? = some (.wait 1) ∧ (atWait.st = .init ∨ atWait.st = .exec) ∧
      atWait.aix + 1 < atWait.act.length) ∧
    (e.Quiet ∧ e.act[e.aix]? = some (.wait 50) ∧ e.st = .exec ∧ e.act.length ≤ e.aix + 1) ∧
    (i.Quiet ∧ i.act[i.aix]? = some (.wait 50) ∧ i.st = .init ∧ i.act.length ≤ i.aix + 1) :=
  ⟨⟨⟨rfl, rfl, rfl⟩, rfl, .inr rfl, by decide⟩, ⟨⟨rfl, rfl, rfl⟩, rfl, rfl, by decide⟩, ⟨rfl, rfl, rfl⟩, rfl, rfl,
    by decide⟩
/-- A write with no answer, a write within a list, and a write that is a list's last action, in EXEC and in INIT. -/
theorem witness_WriteCompletesWithItsAnswer :
    let s := { running10 with answers := [] }
    let e := { running10 with act := [.write 0x08], answers := [.ok] }
    let i := { inInit 0 [.ok] with act := [.write 0x08] }
    (s.Quiet ∧ s.act[s.aix]? = some (.write 0x49) ∧ (s.st = .init ∨ s.st = .exec) ∧ s.answers = []) ∧
    (running10.Quiet ∧ running10.act[running10.aix]? = some (.write 0x49) ∧
      running10.answers = .ok :: List.replicate 5 .ok ∧ (running10.st = .init ∨ running10.st = .exec) ∧
      running10.aix + 1 < running10.act.length) ∧
    (e.Quiet ∧ e.act[e.aix]? = some (.write 0x08) ∧ e.answers = .ok :: [] ∧ e.st = .exec ∧
      e.act.length ≤ e.aix + 1) ∧
    (i.Quiet ∧ i.act[i.aix]? = some (.write 0x08) ∧ i.answers = .ok :: [] ∧ i.st = .init ∧
      i.act.length ≤ i.aix + 1) :=
  ⟨⟨⟨rfl, rfl, rfl⟩, rfl, .inr rfl, rfl⟩, ⟨⟨rfl, rfl, rfl⟩, rfl, rfl, .inr rfl, by decide⟩,
    ⟨⟨rfl, rfl, rfl⟩, rfl, rfl, rfl, by decide⟩, ⟨rfl, rfl, rfl⟩, rfl, rfl, rfl, by decide⟩
theorem witness_TransportErrorAbortsPrecisely :
    let s := { running10 with answers := [.err] }
    (s.Quiet ∧ s.act[s.aix]? = some (.write 0x49) ∧ s.answers = .err :: [] ∧ s.st = .exec) ∧
    ((inInit 0 [.err]).Quiet ∧ (inInit 0 [.err]).act[(inInit 0 [.err]).aix]? = some (.write 0x08) ∧
      (inInit 0 [.err]).answers = .err :: [] ∧ (inInit 0 [.err]).st = .init) :=
  ⟨⟨⟨rfl, rfl, rfl⟩, rfl, rfl, rfl⟩, ⟨rfl, rfl, rfl⟩, rfl, rfl, rfl⟩
theorem witness_StepRunsTheAcceptedRequest :
    (ready [] [0x141]).rst = false ∧ dueInput (ready [] [0x141]) = none ∧ (ready [] [0x141]).rsp = none ∧
    ((ready [] [0x141]).st = .ready ∨ (ready [] [0x141]).st = .fault) ∧ (ready [] [0x141]).hostQueue = 0x141 :: [] :=
  ⟨rfl, rfl, rfl, .inl rfl, rfl⟩
theorem witness_RequestsAreHeldUntilReady :
    let s := { State.reset with hostQueue := [0x141] }
    (∃ t, step s = .next t) ∧ reqReady s = false := ⟨⟨_, rfl⟩, rfl⟩
/-- A pulse that is out, and a ready block with nothing to do. -/
theorem witness_BetweenRequestsTheBlockIsIdle :
    let p := { ready [] [] with rsp := some .ok }
    (p.rst = false ∧ dueInput p = none ∧ (p.st = .ready ∨ p.st = .fault) ∧ p.rsp = some .ok) ∧
    ((ready [] []).rst = false ∧ dueInput (ready [] []) = none ∧ ((ready [] []).st = .ready ∨ (ready [] []).st = .fault) ∧
      (ready [] []).rsp = none ∧ (ready [] []).hostQueue = []) :=
  ⟨⟨rfl, rfl, .inl rfl, rfl⟩, rfl, rfl, .inl rfl, rfl, rfl⟩

/-- No pin event is due where none is on its way. -/
theorem not_resetDue {s : State} (h : s.inputs = []) : ¬ s.resetDue := by
  rintro (⟨r, hr⟩ | ⟨r, hr⟩) <;> rw [h] at hr <;> exact absurd hr (by simp)

theorem witness_IndexNeverJumps :
    (∃ t, step (inInit 0 [.ok]) = .next t ∧ t.aix = 1) ∧ ¬ (inInit 0 [.ok]).resetDue :=
  ⟨⟨_, rfl, rfl⟩, not_resetDue rfl⟩
theorem witness_EveryStepGoesOn :
    let s := { State.reset with rst := true, cfgRowsPin := 0, inputs := [(0, .releaseReset)] }
    (∃ t, step State.reset = .next t) ∧ s.inputDue .releaseReset ∧ s.rst = true ∧ s.cfgRowsPin = 0 :=
  ⟨⟨_, rfl⟩, ⟨_, rfl⟩, rfl, rfl⟩
/-- A step that changes `ST`, of each kind. -/
theorem witness_SequencerTransitions :
    (∃ t, step { ready [] [] with inputs := [(0, .assertReset)] } = .next t ∧ t.st = .init) ∧
    (∃ t, step (inInit 66 []) = .next t ∧ t.st = .ready) ∧ (∃ t, step (inInit 0 [.err]) = .next t ∧ t.st = .fault) ∧
    (∃ t, step (ready [] [0x141]) = .next t ∧ t.st = .exec) ∧
    ∃ t, step { running10 with answers := [.err] } = .next t ∧ t.st = .ready :=
  ⟨⟨_, rfl, rfl⟩, ⟨_, rfl, rfl⟩, ⟨_, rfl, rfl⟩, ⟨_, rfl, rfl⟩, ⟨_, rfl, rfl⟩⟩
theorem witness_FaultIsStickyWithoutReset :
    (∃ t, step (inInit 0 [.err]) = .next t ∧ t.st = .fault) ∧
    ((failed []).st = .fault ∧ (∃ t, step (failed []) = .next t) ∧ ¬ (failed []).resetDue) ∧
    (failed [0x3FF]).st = .fault ∧ (failed [0x3FF]).acceptsNext 0x3FF :=
  ⟨⟨_, rfl, rfl⟩, ⟨rfl, ⟨_, rfl⟩, not_resetDue rfl⟩, rfl, rfl, rfl, rfl, rfl⟩
theorem witness_OnlySetblAndResetChangeBacklight :
    (∃ t, step (ready [] [0x200]) = .next t ∧ t.bl ≠ (ready [] [0x200]).bl) ∧
    ∃ t, step { ready [] [] with bl := 0, inputs := [(0, .assertReset)] } = .next t ∧ t.bl ≠ 0 :=
  ⟨⟨_, rfl, by decide⟩, ⟨_, rfl, by decide⟩⟩
/-- For each shadow, a step of initialization and a request that change it. -/
theorem witness_ShadowsChangeOnlyAtTheirClass :
    (¬ (inInit 25 []).resetDue ∧ ∃ t, step (inInit 25 []) = .next t ∧ t.func ≠ (inInit 25 []).func) ∧
    (∃ t, step (inInit 35 []) = .next t ∧ t.dctl ≠ (inInit 35 []).dctl) ∧
    (∃ t, step (inInit 56 []) = .next t ∧ t.emode ≠ (inInit 56 []).emode) ∧
    (∃ t, step (ready [] [0x020]) = .next t ∧ t.func ≠ (ready [] [0x020]).func) ∧
    (∃ t, step (ready [] [0x008]) = .next t ∧ t.dctl ≠ (ready [] [0x008]).dctl) ∧
    ∃ t, step (ready [] [0x004]) = .next t ∧ t.emode ≠ (ready [] [0x004]).emode :=
  ⟨⟨not_resetDue rfl, _, rfl, by decide⟩, ⟨_, rfl, by decide⟩, ⟨_, rfl, by decide⟩, ⟨_, rfl, by decide⟩,
    ⟨_, rfl, by decide⟩, ⟨_, rfl, by decide⟩⟩
/-- A release with one row, one with the most rows, and a step that is no release of an asserted reset. -/
theorem witness_ConfigurationIsLatchedAtRelease :
    let one := { State.reset with rst := true, cfgAddrPin := 0x3F, cfgRowsPin := 1, inputs := [(0, .releaseReset)] }
    let most := { State.reset with rst := true, cfgRowsPin := 255, inputs := [(0, .releaseReset)] }
    let low := { State.reset with cfgAddrPin := 0x3F, inputs := [(0, .releaseReset)] }
    (one.inputDue .releaseReset ∧ one.rst = true ∧ one.cfgRowsPin ≠ 0) ∧
    (most.inputDue .releaseReset ∧ most.rst = true ∧ most.cfgRowsPin ≠ 0) ∧
    ((∃ t, step low = .next t) ∧ ¬ (low.inputDue .releaseReset ∧ low.rst = true)) :=
  ⟨⟨⟨_, rfl⟩, rfl, by decide⟩, ⟨⟨_, rfl⟩, rfl, by decide⟩, ⟨_, rfl⟩, fun h => absurd h.2 (by decide)⟩
theorem witness_BusWritesGoToCfgAddr :
    busOut (inInit 0 [.ok]) = some (0x27, 0x08) ∧ ∃ t, step (inInit 0 [.ok]) = .next t ∧
      t.events = [] ++ [.write 0x27 0x08 .ok] := ⟨rfl, _, rfl, rfl⟩

/-- The invariant at reset (R31). -/
theorem reset_inv : State.reset.Inv where
  masks := rfl
  indexBound := by decide
  dataLength := by decide
  pulse := by intro c h; exact absurd h (by simp [State.reset, State.resetWith])
  inInit := fun _ => ⟨rfl, by decide, rfl, rfl, rfl, rfl, rfl, rfl⟩
  inExec := by intro h; exact absurd h (by decide)
  timerIdle := fun _ => rfl
  inFault := by intro h; exact absurd h (by decide)
  inReset := fun _ => ⟨rfl, rfl⟩

theorem witness_BusBytesCarryTheBacklight : State.reset.Inv ∧ busOut State.reset = some (0x27, 0x08) := ⟨reset_inv, rfl⟩
theorem witness_EveryStepKeepsTheInvariant : State.reset.Inv ∧ ∃ t, step State.reset = .next t := ⟨reset_inv, _, rfl⟩
theorem witness_ShadowsDoNotReachTheBus :
    SameButShadows running10 { running10 with dctl := 0, emode := 0, func := 0 } ∧ ∃ t, step running10 = .next t :=
  ⟨rfl, _, rfl⟩
theorem witness_RunningRequestIgnoresHostAndPins :
    SameButHost running10 { running10 with hostQueue := [0x3FF], cfgRowsPin := 1 } ∧
    (running10.st = .init ∨ running10.st = .exec) ∧ ¬ running10.resetDue ∧ ∃ t, step running10 = .next t :=
  ⟨rfl, .inr rfl, not_resetDue rfl, _, rfl⟩
/-- Reset asserted with a write on the bus port, and with none. -/
theorem witness_ResetAssertionStopsAtOnce :
    let s := { running10 with inputs := [(0, .assertReset)] }
    let r := { ready [] [] with inputs := [(0, .assertReset)] }
    (s.inputs = (0, .assertReset) :: [] ∧ busOut s = some (0x27, 0x49)) ∧
      (r.inputs = (0, .assertReset) :: [] ∧ busOut r = none) :=
  ⟨⟨rfl, rfl⟩, rfl, rfl⟩
theorem witness_StateIsHeldInReset :
    let s := { State.reset with rst := true }
    s.rst = true ∧ dueInput s = none := ⟨rfl, rfl⟩
/-- One row and two rows, where the line mode changes. -/
theorem witness_ResetReleaseStartsInitialization :
    let one := { State.reset with rst := true, cfgRowsPin := 1, inputs := [(0, .releaseReset)] }
    let two := { State.reset with rst := true, cfgRowsPin := 2, inputs := [(0, .releaseReset)] }
    (one.inputs = (0, .releaseReset) :: [] ∧ one.rst = true ∧ one.cfgRowsPin ≠ 0) ∧
      (two.inputs = (0, .releaseReset) :: [] ∧ two.rst = true ∧ two.cfgRowsPin ≠ 0) :=
  ⟨⟨rfl, rfl, by decide⟩, rfl, rfl, by decide⟩
/-- An initialization that runs to its end, and one that fails at the first write of step 5. -/
theorem witness_InitializationRunRefinesListRun :
    defaultPinMap.wf = true ∧ (1 : BitVec 8) ≠ 0 ∧ (255 : BitVec 8) ≠ 0 ∧
    (runList 0x27 (initList defaultPinMap 1 1 0) (List.replicate 37 .ok)).map (·.index) = some 67 ∧
    (runList 0x27 (initList defaultPinMap 1 1 0) (List.replicate 13 .ok ++ [.err])).map (·.index) = some 26 :=
  ⟨rfl, by decide, by decide, by decide, by decide⟩
theorem witness_ResetValues : (1 : BitVec 8) ≠ 0 ∧ (255 : BitVec 8) ≠ 0 := by decide
theorem witness_InvariantHoldsAtReset : defaultPinMap.wf = true ∧ (1 : BitVec 8) ≠ 0 := ⟨rfl, by decide⟩
/-- The row in range, past the last row, and past the fourth row. -/
theorem witness_SetCursorClampsTheRow :
    1 ≤ 2 ∧ clampRow 2 1 = 1 ∧ clampRow 2 5 = 1 ∧ clampRow 8 6 = 3 := by decide
theorem witness_PseudoInstructionsAreLegal : 0x048 ∈ expand 16 2 (.setCgram 9) := by decide

end Sys2Proof.Tests
end

/-! PROOFS. A step goes on, but where reset is released with zero rows (spec/00_scope.md R6). -/

namespace Sys2Proof.Machine

/-- The pin event at the head of the list with no delay is the step. -/
theorem step_due {s : State} {e : Input} {rest : List (Nat × Input)} (h : s.inputs = (0, e) :: rest) :
    step s = applyInput e (takeInput rest s) := by
  simp [step, machineStep, dueInput_head h]

/-- With no pin event due, a step is a step of the block. -/
theorem step_not_due {s : State} (h : dueInput s = none) : step s = blockStep (tickInputs s) := by
  simp [step, machineStep, h]

/-- Every request word has a meaning in every state. -/
theorem exec_answers (i : Instr) (s : State) : ∃ t, exec i s = .next t :=
  exec_eq_dispatch i s ▸ dispatch_answers (requestEffect i) s

/-- The request port goes on, idle or with the word it accepts. -/
theorem requestStep_answers (s : State) : ∃ t, requestStep s = .next t := by
  unfold requestStep
  split
  · exact ⟨s, rfl⟩
  · exact exec_answers _ _

/-- The block alone always goes on. -/
theorem blockStep_answers (s : State) : ∃ t, blockStep s = .next t := by
  unfold blockStep
  split_ifs
  · exact ⟨s, rfl⟩
  · exact ⟨endPulse s, rfl⟩
  · cases s.st
    case init | exec => exact ⟨executorStep s, rfl⟩
    case ready | fault => exact requestStep_answers s

/-- A pin event goes on, but for the release of an asserted reset with zero rows. -/
theorem applyInput_answers_or_refused (e : Input) (s : State) :
    (∃ t, applyInput e s = .next t) ∨
    (e = .releaseReset ∧ s.rst = true ∧ s.cfgRowsPin = 0 ∧ applyInput e s = .refused .cfgRowsZero) := by
  cases e with
  | releaseReset =>
    rcases releaseReset_cases s with ⟨-, h⟩ | ⟨hrst, hrows, h⟩ | ⟨-, -, h⟩
    · exact .inl ⟨_, h⟩
    · exact .inr ⟨rfl, hrst, hrows, h⟩
    · exact .inl ⟨_, h⟩
  | assertReset | setConfig _ _ _ | request _ | answer _ => exact .inl ⟨_, rfl⟩

/-- R6, log entry 14: the release of an asserted reset with zero rows is refused. -/
theorem releaseReset_zero_rows {s : State} (hrst : s.rst = true) (hrows : s.cfgRowsPin = 0) :
    releaseReset s = .refused .cfgRowsZero := by
  simp [releaseReset, hrst, hrows]

/-- Settles O37: the block alone always goes on, and of the pin events only the release of an asserted reset with zero
rows does not. -/
theorem everyStepGoesOn : Obligations.EveryStepGoesOn := by
  refine ⟨fun s => ?_, ?_⟩
  · rcases hdue : dueInput s with _ | ⟨e, s'⟩
    · exact .inl (step_not_due hdue ▸ blockStep_answers (tickInputs s))
    · obtain ⟨rest, hinputs, -⟩ := dueInput_some hdue
      rw [step_due hinputs]
      rcases applyInput_answers_or_refused e (takeInput rest s) with hnext | ⟨rfl, hrst, hrows, hrefused⟩
      · exact .inl hnext
      · exact .inr ⟨hrefused, ⟨rest, hinputs⟩, hrst, hrows⟩
  · rintro s ⟨rest, hinputs⟩ hrst hrows
    rw [step_due hinputs]
    exact releaseReset_zero_rows (s := takeInput rest s) hrst hrows

end Sys2Proof.Machine

/-! PROOFS. What one step can be, and what each kind of step leaves (spec/10_state.md). -/

namespace Sys2Proof.Machine

open Sys2Proof.Config

/-! ## The kinds of step -/

/-- Two states that differ at most in the outside world and in what it has seen: the coming pin events, the levels of the
configuration pins, the words the host presents, the adapter's answers and the observation. -/
def SameButOutside (s t : State) : Prop :=
  t = { s with
    inputs := t.inputs, cfgAddrPin := t.cfgAddrPin, cfgRowsPin := t.cfgRowsPin, cfgFontPin := t.cfgFontPin
    hostQueue := t.hostQueue, answers := t.answers, events := t.events }

/-- What one step can be: a level of `rst` taken, a move of the outside world with the block held or idle, the end of a
response pulse, an action of the list that runs, or a request accepted in FAULT or in READY. -/
inductive StepKind (s : State) : State → Prop where
  | resetAsserted (rest : List (Nat × Input)) (hinputs : s.inputs = (0, .assertReset) :: rest) :
      StepKind s (assertReset (takeInput rest s))
  | resetReleased (rest : List (Nat × Input)) (hinputs : s.inputs = (0, .releaseReset) :: rest)
      (hrst : s.rst = true) (hrows : s.cfgRowsPin ≠ 0) :
      StepKind s (setRst false (resetRegs s.cfgAddrPin (lineBit s.cfgRowsPin) s.cfgFontPin (takeInput rest s)))
  | outside (t : State) (hsame : SameButOutside s t) : StepKind s t
  | pulseEnds (hrsp : s.rsp ≠ none) : StepKind s (endPulse (tickInputs s))
  | listRuns (hrst : s.rst = false) (hrsp : s.rsp = none) (hst : s.st = .init ∨ s.st = .exec) :
      StepKind s (executorStep (tickInputs s))
  | refusedInFault (w : ReqWord) (rest : List ReqWord) (hacc : s.acceptsNext w) (hst : s.st = .fault) :
      StepKind s (respond .errFault (accept w rest (tickInputs s)))
  | accepted (w : ReqWord) (rest : List ReqWord) (hacc : s.acceptsNext w) (hst : s.st = .ready) :
      StepKind s (requestEffect (decode w) (accept w rest (tickInputs s)))

theorem sameButOutside_takeInput (rest : List (Nat × Input)) (s : State) : SameButOutside s (takeInput rest s) := rfl

theorem sameButOutside_tickInputs (s : State) : SameButOutside s (tickInputs s) := by
  unfold SameButOutside tickInputs; split <;> rfl

/-- A request is accepted only where no response is pending. -/
theorem rsp_of_acceptsNext {s : State} {w : ReqWord} (h : s.acceptsNext w) : s.rsp = none := by
  obtain ⟨-, -, hready, -⟩ := h
  simp only [reqReady, Bool.and_eq_true, beq_iff_eq] at hready
  exact hready.2

theorem rst_of_acceptsNext {s : State} {w : ReqWord} (h : s.acceptsNext w) : s.rst = false := h.1

/-- A pin event is a level of `rst` taken, or a move of the outside world. -/
theorem stepKind_of_applyInput {s t : State} {e : Input} {rest : List (Nat × Input)} (hinputs : s.inputs = (0, e) :: rest)
    (h : applyInput e (takeInput rest s) = .next t) : StepKind s t := by
  rcases applyInput_next h with ⟨rfl, rfl⟩ | ⟨rfl, -, rfl⟩ | ⟨rfl, hrst, hrows, rfl⟩ | ⟨a, r, f, rfl, rfl⟩ |
    ⟨w, rfl, rfl⟩ | ⟨a, rfl, rfl⟩
  · exact .resetAsserted rest hinputs
  · exact .outside _ (sameButOutside_takeInput rest s)
  · exact .resetReleased rest hinputs hrst hrows
  all_goals exact .outside _ rfl

/-- A step of the block holds or idles, ends a pulse, runs the list, or accepts a request. -/
theorem stepKind_of_blockStep {s t : State} (hdue : dueInput s = none) (h : blockStep (tickInputs s) = .next t) :
    StepKind s t := by
  rcases blockStep_next h with ⟨-, rfl⟩ | ⟨-, hrsp, rfl⟩ | ⟨hrst, hrsp, hst, rfl⟩ | ⟨-, -, -, -, rfl⟩ |
    ⟨w, rest, hrst, hrsp, hst, hqueue, hexec⟩
  · exact .outside _ (sameButOutside_tickInputs s)
  · exact .pulseEnds (by simpa using hrsp)
  · exact .listRuns (by simpa using hrst) (by simpa using hrsp) (by simpa using hst)
  · exact .outside _ (sameButOutside_tickInputs s)
  · rw [tickInputs_rst] at hrst
    rw [tickInputs_rsp] at hrsp
    rw [tickInputs_st] at hst
    rw [tickInputs_hostQueue] at hqueue
    obtain ⟨hacc, ⟨hst', rfl⟩ | ⟨hst', rfl⟩⟩ := accepted_next hdue hrst hrsp hst hqueue hexec
    · exact .refusedInFault w rest ⟨hrst, hdue, hacc.2.2⟩ hst'
    · exact .accepted w rest ⟨hrst, hdue, hacc.2.2⟩ hst'

/-- Every step is of one of the kinds. -/
theorem stepKind_of_step {s t : State} (h : step s = .next t) : StepKind s t := by
  rcases step_next h with ⟨e, rest, hinputs, happly⟩ | ⟨hdue, hblock⟩
  · exact stepKind_of_applyInput hinputs happly
  · exact stepKind_of_blockStep hdue hblock

/-! ## The dispatch of a word and the effect of its instruction -/

/-- R50: the command byte of a class, put together from the fields of the byte `v`. -/
def classByte (v : Byte) : CmdClass → Byte
  | .clear => clearByte
  | .home => homeByte (v.extractLsb' 0 1)
  | .entryModeSet => entryModeByte (v.extractLsb' 1 1) (v.extractLsb' 0 1)
  | .displayControl => displayControlByte (v.extractLsb' 2 1) (v.extractLsb' 1 1) (v.extractLsb' 0 1)
  | .cursorShift => cursorShiftByte (v.extractLsb' 3 1) (v.extractLsb' 2 1) (v.extractLsb' 0 2)
  | .functionSet =>
    functionSetByte (v.extractLsb' 4 1) (v.extractLsb' 3 1) (v.extractLsb' 2 1) (v.extractLsb' 0 2)
  | .setCgramAddr => setCgramByte (v.extractLsb' 0 6)
  | .setDdramAddr => setDdramByte (v.extractLsb' 0 7)
  | .none => 0

/-- R50: a command byte is that of its class. -/
theorem classByte_cls : ∀ v : Byte, classByte v (cls v) = v := by decide

/-- R54: the shadow fields of a command byte, bit by bit. -/
theorem shadowFields_eq_bits : ∀ v : Byte,
    entryModeField v = v.extractLsb' 1 1 ++ v.extractLsb' 0 1 ∧
    displayControlField v = v.extractLsb' 2 1 ++ (v.extractLsb' 1 1 ++ v.extractLsb' 0 1) ∧
    functionSetField v = v.extractLsb' 4 1 ++ (v.extractLsb' 3 1 ++ v.extractLsb' 2 1) := by
  decide

/-- R56, R96: a FUNCTION_SET that is no illegal word has DL = 0. -/
theorem functionSet_dl_eq_zero : ∀ v : Byte, cls v = .functionSet → v.extractLsb' 4 4 ≠ 0b0011 →
    v.extractLsb' 4 1 = 0#1 := by
  decide

/-- R82, R84: a legal command byte's instruction has the effect that its class gives it. -/
theorem requestEffect_decodeCmd {v : Byte} (hzero : v ≠ 0) (hdl : v.extractLsb' 4 4 ≠ 0b0011) (s : State) :
    requestEffect (decodeCmd v) s = startList (cmdList s.pinMap s.bl v) (shadowWrite v s) := by
  have hbyte := classByte_cls v
  obtain ⟨hemode, hdctl, hfunc⟩ := shadowFields_eq_bits v
  cases hcls : cls v <;> rw [hcls] at hbyte
  case none => exact absurd hbyte.symm hzero
  case functionSet =>
    have hdl0 := functionSet_dl_eq_zero v hcls hdl
    simp only [classByte, hdl0] at hbyte
    simp [decodeCmd, requestEffect, sendCommand, cmdList, shadowWrite, hcls, hdl0, hbyte, hfunc]
  all_goals
    simp only [classByte] at hbyte
    simp [decodeCmd, requestEffect, sendCommand, cmdList, shadowWrite, hcls, hbyte, hemode, hdctl]

/-- R82: in READY the instruction a word decodes to has the effect of the dispatch by OP and class. -/
theorem requestEffect_decode (w : ReqWord) {s : State} (hst : s.st ≠ .fault) :
    requestEffect (decode w) s = dispatchWord w s := by
  have hops : ∀ o : BitVec 2, o = 0b00 ∨ o = 0b01 ∨ o = 0b10 ∨ o = 0b11 := by decide
  rcases hops (opOf w) with hop | hop | hop | hop
  · by_cases hzero : argOf w = 0
    · simp [decode, decodeCmd, dispatchWord, illegal, hop, hzero, hst, requestEffect, cls]
    by_cases hdl : (argOf w).extractLsb' 4 4 = 0b0011
    · have hcls : ∀ v : Byte, v.extractLsb' 4 4 = 0b0011 → cls v = .functionSet ∧ v.extractLsb' 4 1 = 1 := by decide
      simp [decode, decodeCmd, dispatchWord, illegal, hop, hdl, hst, requestEffect, hcls _ hdl]
    · have hlegal : illegal w = false := by simpa [illegal, hop] using ⟨hzero, hdl⟩
      simp [decode, dispatchWord, hop, hst, hlegal, requestEffect_decodeCmd hzero hdl]
  · simp [decode, dispatchWord, illegal, hop, hst, requestEffect]
  · by_cases harg : (argOf w).extractLsb' 1 7 = 0#7 <;>
      simp [decode, dispatchWord, illegal, hop, harg, hst, requestEffect]
  · simp [decode, dispatchWord, illegal, hop, hst, requestEffect]

/-- R82: what a word accepted in READY comes to. It is refused, or its list starts with the shadow of its class written,
or `BL` is written and the answer is OK. -/
theorem requestEffect_decode_cases (w : ReqWord) {s : State} (hst : s.st = .ready) :
    requestEffect (decode w) s = respond .errIllegal s ∨
    (illegal w = false ∧ opOf w = 0b00 ∧
      requestEffect (decode w) s = startList (cmdList s.pinMap s.bl (argOf w)) (shadowWrite (argOf w) s)) ∨
    (illegal w = false ∧ opOf w = 0b01 ∧
      requestEffect (decode w) s = startList (send s.pinMap s.bl (argOf w) 1) s) ∨
    ∃ b, requestEffect (decode w) s = respond .ok { s with bl := b } := by
  have hst' : s.st ≠ .fault := by simp [hst]
  rw [requestEffect_decode w hst']
  unfold dispatchWord
  rw [if_neg hst']
  split_ifs with hill hcmd hdata
  · exact .inl rfl
  · exact .inr (.inl ⟨by simpa using hill, hcmd, rfl⟩)
  · exact .inr (.inr (.inl ⟨by simpa using hill, hdata, rfl⟩))
  · exact .inr (.inr (.inr ⟨_, rfl⟩))

/-- R82: the list of a word is that of its command byte, or of its data byte. -/
theorem requestList_some {pm : PinMap} {bl : Bit} {w : ReqWord} {l : List Action} (h : requestList pm bl w = some l) :
    l = cmdList pm bl (argOf w) ∨ l = send pm bl (argOf w) 1 := by
  unfold requestList at h
  split_ifs at h <;> simp_all

theorem requestList_cmd {w : ReqWord} (pm : PinMap) (bl : Bit) (hlegal : illegal w = false) (hop : opOf w = 0b00) :
    requestList pm bl w = some (cmdList pm bl (argOf w)) := by
  simp [requestList, hlegal, hop]

theorem requestList_data {w : ReqWord} (pm : PinMap) (bl : Bit) (hlegal : illegal w = false) (hop : opOf w = 0b01) :
    requestList pm bl w = some (send pm bl (argOf w) 1) := by
  simp [requestList, hlegal, hop]

end Sys2Proof.Machine

/-! PROOFS. The invariant: reset establishes it and every step keeps it (spec/10_state.md R16, R22, R26, R27). -/

namespace Sys2Proof.Machine

open Sys2Proof.Config

/-! ## Lengths of the lists -/

theorem length_send (pm : PinMap) (bl : Bit) (v : Byte) (m : Bit) : (send pm bl v m).length = 10 := rfl

theorem length_cmdList (pm : PinMap) (bl : Bit) (v : Byte) :
    0 < (cmdList pm bl v).length ∧ (cmdList pm bl v).length ≤ 11 := by
  rw [cmdList_eq, List.length_append, length_send]
  split <;> simp

theorem length_requestList {pm : PinMap} {bl : Bit} {w : ReqWord} {l : List Action} (h : requestList pm bl w = some l) :
    0 < l.length ∧ l.length ≤ 11 := by
  rcases requestList_some h with rfl | rfl
  · exact length_cmdList pm bl _
  · simp [length_send]

theorem length_initList (pm : PinMap) (bl n f : Bit) : (initList pm bl n f).length = 67 := rfl

/-! ## The timer -/

/-- R26: where the timer is 0 it is within any wait. -/
theorem timerOk_of_tmr_eq_zero {s : State} (h : s.tmr = 0) : s.timerOk := by
  unfold State.timerOk
  split <;> simp [h]

/-- R26: the timer armed for the action that begins is within its wait. -/
theorem armTimer_timerOk {s : State} (h : s.tmr = 0) : (armTimer s).timerOk := by
  rcases hact : s.act[s.aix]? with _ | ⟨b | t⟩
  · simp [State.timerOk, armTimer, hact, h]
  · simp [State.timerOk, armTimer, hact, h]
  · simpa [State.timerOk, armTimer, hact] using Nat.mod_le t 65536

/-- R26: a count down stays within the wait. -/
theorem countDown_timerOk {s : State} {t : Nat} (hact : s.act[s.aix]? = some (.wait t)) (h : s.timerOk)
    (hne : s.tmr ≠ 0) : (countDown s).timerOk := by
  have hle : s.tmr.toNat ≤ t := by simpa [State.timerOk, hact] using h
  have hdown : (s.tmr - 1).toNat ≤ t := by bv_omega
  simpa [State.timerOk, hact] using hdown

/-- R26: no count is left where a write is under way. -/
theorem tmr_of_timerOk_write {s : State} {b : Byte} (hact : s.act[s.aix]? = some (.write b)) (h : s.timerOk) :
    s.tmr = 0 := by
  simpa [State.timerOk, hact] using h

/-! ## The invariant, piece by piece -/

/-- The invariant reads no pin, no word of the host, no answer, no coming event and no event of the observation. -/
theorem inv_of_sameButOutside {s t : State} (hsame : SameButOutside s t) (h : s.Inv) : t.Inv := by
  rw [hsame]
  exact
    { masks := h.masks, indexBound := h.indexBound, dataLength := h.dataLength, pulse := h.pulse
      inInit := fun hst =>
        let ⟨list, index, backlight, last, func, dctl, emode, timer⟩ := h.inInit hst
        ⟨list, index, backlight, last, func, dctl, emode, timer⟩
      inExec := fun hst =>
        let ⟨list, index, shadow, timer⟩ := h.inExec hst
        ⟨list, index, fun hop => (shadowWrite_fixed _ _).mpr ((shadowWrite_fixed _ s).mp (shadow hop)), timer⟩
      timerIdle := h.timerIdle, inFault := h.inFault, inReset := h.inReset }

/-- R31: the reset values meet the invariant, whatever the level of `rst`. -/
theorem reset_values_inv {s : State} (hmasks : s.pinMap.wf = true) (level : Bool) (addr : I2cAddr) (n f : Bit) :
    (setRst level (resetRegs addr n f s)).Inv where
  masks := hmasks
  indexBound := Nat.zero_le 67
  dataLength := show resetFunc.extractLsb' 2 1 = 0 by decide
  pulse := nofun
  inInit := fun _ => ⟨rfl, show 0 < 67 by decide, rfl, rfl, rfl, rfl, rfl, timerOk_of_tmr_eq_zero rfl⟩
  inExec := nofun
  timerIdle := by simp [setRst]
  inFault := nofun
  inReset := fun _ => ⟨rfl, rfl⟩

/-- R32, R119: a response leaves the invariant where no list's timer is left over and, in FAULT, it is ERR_FAULT with
`BL` at its reset value. -/
theorem respond_inv {s : State} {c : RespCode} (hmasks : s.pinMap.wf = true) (hindex : s.aix ≤ 67)
    (hdl : s.func.extractLsb' 2 1 = 0) (htmr : s.tmr = 0) (hrst : s.rst = false)
    (hfault : s.st = .fault → s.bl = 1 ∧ c = .errFault) : (respond c s).Inv := by
  have hst : (respond c s).st = .ready ∨ (respond c s).st = .fault := by
    by_cases h : s.st = .fault <;> simp [h]
  exact
    { masks := hmasks, indexBound := hindex, dataLength := hdl
      pulse := by
        intro d hd
        exact ⟨hst, by simpa using hd⟩
      inInit := fun h => by rw [h] at hst; simp at hst
      inExec := fun h => by rw [h] at hst; simp at hst
      timerIdle := fun _ => htmr
      inFault := by
        intro h
        obtain ⟨hbl, hc⟩ := hfault (by simpa using h)
        exact ⟨hbl, .inr hc⟩
      inReset := fun h => by simp [hrst] at h }

/-- R16: while a list runs, `AIX` is an index of it, and the list has at most 67 actions. -/
theorem index_of_running {s : State} (h : s.Inv) (hrun : s.st = .init ∨ s.st = .exec) :
    s.aix < s.act.length ∧ s.act.length ≤ 67 := by
  rcases hrun with hst | hst
  · have hinit := h.inInit hst
    rw [hinit.list, length_initList]
    exact ⟨hinit.index, le_rfl⟩
  · have hexec := h.inExec hst
    exact ⟨hexec.index, (length_requestList hexec.list).2.trans (by decide)⟩

theorem timerOk_of_running {s : State} (h : s.Inv) (hrun : s.st = .init ∨ s.st = .exec) : s.timerOk :=
  hrun.elim (fun hst => (h.inInit hst).timer) (fun hst => (h.inExec hst).timer)

/-! ## The executor keeps the invariant -/

/-- R108: what is written when the index reaches `k` stands from `k` on. -/
theorem reached_succ {α : Type} (i k : Nat) (x y : α) :
    (if i + 1 = k then x else if k ≤ i then x else y) = if k ≤ i + 1 then x else y := by
  by_cases h : i + 1 = k
  · simp [h]
  · have hle : k ≤ i + 1 ↔ k ≤ i := by omega
    simp [h, hle]

/-- R108: an action completed within the initialization list leaves each shadow as its step has it. -/
theorem advance_initInv {s : State} (h : s.InitInv) (hst : s.st = .init) (htmr : s.tmr = 0)
    (hlt : s.aix + 1 < s.act.length) : (advance s).InitInv := by
  obtain ⟨hfunc, hdctl, hemode⟩ := advance_shadows s
  have hlen : s.aix + 1 < 67 := by rwa [h.list, length_initList] at hlt
  simp only [hst, hlt, true_and] at hfunc hdctl hemode
  exact
    { list := by simpa using h.list
      index := by simpa using hlen
      backlight := by simpa using h.backlight
      last := by rw [advance_within hlt]; simpa using h.last
      funcShadow := by
        rw [hfunc, h.funcShadow, advance_aix, advance_cfgN, advance_cfgF, reached_succ]
      dctlShadow := by
        rw [hdctl, h.dctlShadow, advance_aix, reached_succ]
      emodeShadow := by
        rw [hemode, h.emodeShadow, advance_aix, reached_succ]
      timer := by rw [advance_within hlt]; exact armTimer_timerOk (by simpa using htmr) }

/-- R27, R82: an action completed within a request's list leaves its request and its shadow. -/
theorem advance_execInv {s : State} (h : s.ExecInv) (hst : s.st = .exec) (htmr : s.tmr = 0)
    (hlt : s.aix + 1 < s.act.length) : (advance s).ExecInv := by
  obtain ⟨hfunc, hdctl, hemode⟩ := advance_shadows s
  simp only [hst, reduceCtorEq, false_and, if_false] at hfunc hdctl hemode
  have hreq : (advance s).req = s.req := by rw [advance_within hlt]; simp
  exact
    { list := by simpa [hreq] using h.list
      index := by simpa using hlt
      shadow := by
        rw [hreq, shadowWrite_fixed, hfunc, hdctl, hemode, ← shadowWrite_fixed]
        exact h.shadow
      timer := by rw [advance_within hlt]; exact armTimer_timerOk (by simpa using htmr) }

/-- R22: completing an action keeps `FUNC.DL` at 0. -/
theorem advance_dataLength {s : State} (h : s.func.extractLsb' 2 1 = 0) : (advance s).func.extractLsb' 2 1 = 0 := by
  have hinit : ∀ n f : Bit, (0#1 ++ (n ++ f)).extractLsb' 2 1 = 0 := by decide
  rw [(advance_shadows s).1]
  split
  · exact hinit _ _
  · exact h

/-- R16, R26: completing an action of a running list keeps the invariant, within the list and at its end. -/
theorem advance_inv {s : State} (h : s.Inv) (hrst : s.rst = false) (hrsp : s.rsp = none)
    (hrun : s.st = .init ∨ s.st = .exec) (htmr : s.tmr = 0) : (advance s).Inv := by
  obtain ⟨hindex, hlen⟩ := index_of_running h hrun
  by_cases hlt : s.aix + 1 < s.act.length
  · have hst : (advance s).st = s.st := by rw [advance_within hlt]; simp
    have hrsp' : (advance s).rsp = none := by rw [advance_within hlt]; simpa using hrsp
    have hidle : ¬ (s.st = .ready ∨ s.st = .fault) := by rcases hrun with h | h <;> simp [h]
    exact
      { masks := by simpa using h.masks
        indexBound := by rw [advance_aix]; omega
        dataLength := advance_dataLength h.dataLength
        pulse := fun c hc => by simp [hrsp'] at hc
        inInit := fun hinit =>
          advance_initInv (h.inInit (hst ▸ hinit)) (hst ▸ hinit) htmr hlt
        inExec := fun hexec =>
          advance_execInv (h.inExec (hst ▸ hexec)) (hst ▸ hexec) htmr hlt
        timerIdle := fun hst' => absurd (hst ▸ hst') hidle
        inFault := fun hfault => absurd (.inr (hst ▸ hfault)) hidle
        inReset := fun hr => by simp [hrst] at hr }
  · rw [advance_end (Nat.not_lt.mp hlt)]
    have hnext : (nextIndex s).aix ≤ 67 := by rw [nextIndex_aix]; omega
    rcases hrun with hst | hst
    · rw [show finishList (nextIndex s) = { nextIndex s with st := .ready } by simp [finishList, hst]]
      exact
        { masks := h.masks, indexBound := hnext, dataLength := h.dataLength
          pulse := fun c hc => by simp [hrsp] at hc
          inInit := nofun, inExec := nofun
          timerIdle := fun _ => htmr
          inFault := nofun
          inReset := fun hr => by simp [hrst] at hr }
    · rw [show finishList (nextIndex s) = respond .ok (nextIndex s) by simp [finishList, hst]]
      exact respond_inv h.masks hnext h.dataLength htmr hrst (fun hfault => by simp [hst] at hfault)

/-- R112, R117: a failed write of a running list keeps the invariant. -/
theorem abortList_inv {s : State} (h : s.Inv) (hrst : s.rst = false) (hrsp : s.rsp = none)
    (hrun : s.st = .init ∨ s.st = .exec) (htmr : s.tmr = 0) : (abortList s).Inv := by
  rcases hrun with hst | hst
  · rw [show abortList s = { s with st := .fault, lastResp := .errTransport } by simp [abortList, hst]]
    exact
      { masks := h.masks, indexBound := h.indexBound, dataLength := h.dataLength
        pulse := fun c hc => by simp [hrsp] at hc
        inInit := nofun, inExec := nofun
        timerIdle := fun _ => htmr
        inFault := fun _ => ⟨(h.inInit hst).backlight, .inl rfl⟩
        inReset := fun hr => by simp [hrst] at hr }
  · rw [show abortList s = respond .errTransport s by simp [abortList, hst]]
    exact respond_inv h.masks h.indexBound h.dataLength htmr hrst (fun hfault => by simp [hst] at hfault)

/-- R26: a count of the timer within a wait keeps the invariant. -/
theorem countDown_inv {s : State} {t : Nat} (h : s.Inv) (hrun : s.st = .init ∨ s.st = .exec)
    (hact : s.act[s.aix]? = some (.wait t)) (hne : s.tmr ≠ 0) : (countDown s).Inv := by
  have htimer := countDown_timerOk hact (timerOk_of_running h hrun) hne
  have hidle : ¬ (s.st = .ready ∨ s.st = .fault) := by rcases hrun with h | h <;> simp [h]
  exact
    { masks := h.masks, indexBound := h.indexBound, dataLength := h.dataLength, pulse := h.pulse
      inInit := fun hst =>
        let ⟨list, index, backlight, last, func, dctl, emode, _⟩ := h.inInit hst
        ⟨list, index, backlight, last, func, dctl, emode, htimer⟩
      inExec := fun hst =>
        let ⟨list, index, shadow, _⟩ := h.inExec hst
        ⟨list, index, fun hop => (shadowWrite_fixed _ _).mpr ((shadowWrite_fixed _ s).mp (shadow hop)), htimer⟩
      timerIdle := fun hst => absurd hst hidle
      inFault := h.inFault, inReset := h.inReset }

/-- R78: an action of the list that runs keeps the invariant. -/
theorem executorStep_inv {s : State} (h : s.Inv) (hrst : s.rst = false) (hrsp : s.rsp = none)
    (hrun : s.st = .init ∨ s.st = .exec) : (executorStep s).Inv := by
  have htimer := timerOk_of_running h hrun
  rcases executorStep_cases s with ⟨hnone, -⟩ | ⟨b, hwrite, ⟨-, he⟩ | ⟨rest, -, he⟩ | ⟨rest, -, he⟩⟩ |
    ⟨t, hwait, ⟨htmr, he⟩ | ⟨hne, he⟩⟩
  · have hindex := (index_of_running h hrun).1
    rw [List.getElem?_eq_none_iff] at hnone
    omega
  · rwa [he]
  · rw [he]
    exact advance_inv (inv_of_sameButOutside (s := s) rfl h) hrst hrsp hrun (tmr_of_timerOk_write hwrite htimer)
  · rw [he]
    exact abortList_inv (inv_of_sameButOutside (s := s) rfl h) hrst hrsp hrun (tmr_of_timerOk_write hwrite htimer)
  · rw [he]
    exact advance_inv (inv_of_sameButOutside (s := s) rfl h) hrst hrsp hrun htmr
  · rw [he]
    exact countDown_inv h hrun hwait hne

/-! ## A request accepted keeps the invariant -/

/-- R22, R96: the shadow of a legal command byte has DL = 0. -/
theorem shadowWrite_dataLength {w : ReqWord} {s : State} (hlegal : illegal w = false) (hop : opOf w = 0b00)
    (h : s.func.extractLsb' 2 1 = 0) : (shadowWrite (argOf w) s).func.extractLsb' 2 1 = 0 := by
  have hfield : ∀ v : Byte, (functionSetField v).extractLsb' 2 1 = v.extractLsb' 4 1 := by decide
  rw [shadowWrite_frame]
  dsimp only
  split_ifs with hcls
  · rw [hfield]
    refine functionSet_dl_eq_zero _ hcls ?_
    simp_all [illegal]
  · exact h

/-- R82: a request's list that starts in `u` meets the invariant, where it is that of the word in `REQ` and its shadow is
written. -/
theorem startList_inv {u : State} {l : List Action} (hmasks : u.pinMap.wf = true)
    (hdl : u.func.extractLsb' 2 1 = 0) (hrst : u.rst = false) (hrsp : u.rsp = none) (htmr : u.tmr = 0)
    (hlist : requestList u.pinMap u.bl u.req = some l)
    (hshadow : opOf u.req = 0b00 → shadowWrite (argOf u.req) u = u) : (startList l u).Inv where
  masks := by simpa using hmasks
  indexBound := by simp
  dataLength := by simpa using hdl
  pulse := fun c hc => by simp [hrsp] at hc
  inInit := fun h => by simp at h
  inExec := fun _ =>
    { list := by simpa using hlist
      index := by simpa using (length_requestList hlist).1
      shadow := by
        rw [startList_req]
        intro hop
        rw [shadowWrite_fixed, startList_func, startList_dctl, startList_emode, ← shadowWrite_fixed]
        exact hshadow hop
      timer := armTimer_timerOk htmr }
  timerIdle := fun h => by simp at h
  inFault := fun h => by simp at h
  inReset := fun hr => by simp [hrst] at hr

/-- R82, R88, R90: a word accepted in READY keeps the invariant. -/
theorem requestEffect_inv {s : State} {w : ReqWord} (rest : List ReqWord) (h : s.Inv) (hst : s.st = .ready)
    (hrst : s.rst = false) (hrsp : s.rsp = none) : (requestEffect (decode w) (accept w rest s)).Inv := by
  have htmr := h.timerIdle (.inl hst)
  have hnofault {p : Prop} : s.st = .fault → p := fun hfault => by simp [hst] at hfault
  rcases requestEffect_decode_cases w (s := accept w rest s) hst with
    he | ⟨hlegal, hop, he⟩ | ⟨hlegal, hop, he⟩ | ⟨b, he⟩ <;> rw [he]
  · exact respond_inv h.masks h.indexBound h.dataLength htmr hrst hnofault
  · refine startList_inv (by simpa using h.masks) (shadowWrite_dataLength hlegal hop h.dataLength) (by simpa using hrst)
      (by simpa using hrsp) (by simpa using htmr) ?_ ?_
    · simpa using requestList_cmd _ _ hlegal hop
    · intro _
      simpa using shadowWrite_twice (argOf w) (accept w rest s)
  · refine startList_inv h.masks h.dataLength hrst hrsp htmr (requestList_data _ _ hlegal hop) ?_
    intro hop'
    rw [accept_req, hop] at hop'
    exact absurd hop' (by decide)
  · exact respond_inv h.masks h.indexBound h.dataLength htmr hrst hnofault

/-- R32: the end of a response pulse keeps the invariant: a response is pending in READY and FAULT only. -/
theorem endPulse_inv {s : State} (h : s.Inv) (hrsp : s.rsp ≠ none) : (endPulse s).Inv := by
  obtain ⟨c, hc⟩ := Option.ne_none_iff_exists'.mp hrsp
  have hst := (h.pulse c hc).1
  exact
    { masks := h.masks, indexBound := h.indexBound, dataLength := h.dataLength
      pulse := nofun
      inInit := fun hinit => by simp_all
      inExec := fun hexec => by simp_all
      timerIdle := h.timerIdle, inFault := h.inFault, inReset := h.inReset }

/-! ## The obligations about the invariant -/

/-- Settles O52: the values that reset leaves are those of `resetRegs`. -/
theorem invariantHoldsAtReset : Obligations.InvariantHoldsAtReset := by
  have hreset : ∀ (pm : PinMap) (addr : I2cAddr) (rows : BitVec 8) (font : Bit) (h : rows ≠ 0),
      pm.wf = true → (State.resetWith pm addr rows font h).Inv := fun pm addr rows font h hmasks =>
    reset_values_inv (s := State.resetWith pm addr rows font h) hmasks false addr (lineBit rows) font
  exact ⟨hreset _ _ _ _ _ rfl, hreset⟩

/-- Settles O53: each kind of step keeps the invariant. -/
theorem everyStepKeepsTheInvariant : Obligations.EveryStepKeepsTheInvariant := by
  intro s t hinv hstep
  have htick : (tickInputs s).Inv := inv_of_sameButOutside (sameButOutside_tickInputs s) hinv
  cases stepKind_of_step hstep with
  | resetAsserted rest hinputs => exact reset_values_inv (by simpa using hinv.masks) true _ _ _
  | resetReleased rest hinputs hrst hrows => exact reset_values_inv (by simpa using hinv.masks) false _ _ _
  | outside _ hsame => exact inv_of_sameButOutside hsame hinv
  | pulseEnds hrsp => exact endPulse_inv htick (by simpa using hrsp)
  | listRuns hrst hrsp hst =>
    exact executorStep_inv htick (by simpa using hrst) (by simpa using hrsp) (by simpa using hst)
  | refusedInFault w rest hacc hst =>
    have hbl := (hinv.inFault hst).1
    exact respond_inv htick.masks htick.indexBound htick.dataLength (htick.timerIdle (.inr (by simpa using hst)))
      (by simpa using rst_of_acceptsNext hacc) (fun _ => ⟨by simpa using hbl, rfl⟩)
  | accepted w rest hacc hst =>
    exact requestEffect_inv rest htick (by simpa using hst) (by simpa using rst_of_acceptsNext hacc)
      (by simpa using rsp_of_acceptsNext hacc)

end Sys2Proof.Machine

/-! PROOFS. How `AIX`, `ST`, the shadows and the configuration latch change in one step (spec/10_state.md R16, R18, R21,
R25), and the reset values (R31). -/

namespace Sys2Proof.Machine

open Sys2Proof.Config

/-! ## What the executor and an accepted request do to `AIX` and `ST` -/

theorem executorStep_aix (s : State) : (executorStep s).aix = s.aix ∨ (executorStep s).aix = s.aix + 1 := by
  rcases executorStep_cases s with ⟨-, he⟩ | ⟨b, -, ⟨-, he⟩ | ⟨rest, -, he⟩ | ⟨rest, -, he⟩⟩ | ⟨t, -, ⟨-, he⟩ | ⟨-, he⟩⟩ <;>
    simp [he]

theorem finishList_st {s : State} (hrun : s.st = .init ∨ s.st = .exec) : (finishList s).st = .ready := by
  rcases hrun with hst | hst <;> simp [finishList, hst]

theorem abortList_st {s : State} (hrun : s.st = .init ∨ s.st = .exec) :
    (abortList s).st = if s.st = .init then .fault else .ready := by
  rcases hrun with hst | hst <;> simp [abortList, hst]

theorem advance_st {s : State} (hrun : s.st = .init ∨ s.st = .exec) :
    (advance s).st = if s.aix + 1 < s.act.length then s.st else .ready := by
  split_ifs with h
  · rw [advance_within h]; simp
  · rw [advance_end (Nat.not_lt.mp h)]; exact finishList_st hrun

/-- R25: what an action of the list that runs does to `ST`. -/
theorem executorStep_st {s : State} (hrun : s.st = .init ∨ s.st = .exec) :
    (executorStep s).st = s.st ∨
    (s.act.length ≤ s.aix + 1 ∧ (executorStep s).st = .ready) ∨
    (s.answers.head? = some .err ∧ (executorStep s).st = if s.st = .init then .fault else .ready) := by
  have hadvance (u : State) (hst : u.st = s.st) (hact : u.act = s.act) (haix : u.aix = s.aix) :
      (advance u).st = s.st ∨ (s.act.length ≤ s.aix + 1 ∧ (advance u).st = .ready) := by
    rw [advance_st (hst ▸ hrun), hst, hact, haix]
    split_ifs with h
    · exact .inl rfl
    · exact .inr ⟨Nat.not_lt.mp h, rfl⟩
  rcases executorStep_cases s with ⟨hnone, he⟩ | ⟨b, -, ⟨-, he⟩ | ⟨rest, -, he⟩ | ⟨rest, herr, he⟩⟩ |
    ⟨t, -, ⟨-, he⟩ | ⟨-, he⟩⟩ <;> rw [he]
  · exact .inr (.inl ⟨(List.getElem?_eq_none_iff.mp hnone).trans (Nat.le_succ _), finishList_st hrun⟩)
  · exact .inl rfl
  · exact (hadvance (logEvent _ (takeAnswer rest s)) rfl rfl rfl).imp_right .inl
  · exact .inr (.inr ⟨by simp [herr], abortList_st hrun⟩)
  · exact (hadvance (logEvent _ s) rfl rfl rfl).imp_right .inl
  · exact .inl rfl

theorem cmdList_ne_nil (pm : PinMap) (bl : Bit) (v : Byte) : cmdList pm bl v ≠ [] :=
  List.ne_nil_of_length_pos (length_cmdList pm bl v).1

/-- R25, R83: a word accepted in READY is answered at once with no list, or starts its list at the first action. -/
theorem requestEffect_starts_or_answers (w : ReqWord) {s : State} (hst : s.st = .ready) :
    ((requestEffect (decode w) s).st = .ready ∧ (requestEffect (decode w) s).aix = s.aix) ∨
    ((requestEffect (decode w) s).st = .exec ∧ (requestEffect (decode w) s).aix = 0 ∧
      (requestEffect (decode w) s).act ≠ []) := by
  rcases requestEffect_decode_cases w hst with he | ⟨-, -, he⟩ | ⟨-, -, he⟩ | ⟨b, he⟩ <;> rw [he]
  · simp [hst]
  · exact .inr ⟨startList_st _ _, startList_aix _ _, by simpa using cmdList_ne_nil _ _ _⟩
  · exact .inr ⟨startList_st _ _, startList_aix _ _, by simp [send, writeNibble_eq]⟩
  · simp [hst]

/-- Settles O36: the executor moves `AIX` on by one at most, and only a started list sets it to 0. -/
theorem indexNeverJumps : Obligations.IndexNeverJumps := by
  intro s t hstep hreset
  cases stepKind_of_step hstep with
  | resetAsserted rest hinputs => exact absurd (.inl ⟨rest, hinputs⟩) hreset
  | resetReleased rest hinputs _ _ => exact absurd (.inr ⟨rest, hinputs⟩) hreset
  | outside _ hsame => rw [hsame]; exact .inl rfl
  | pulseEnds _ => exact .inl (by simp)
  | listRuns _ _ hst =>
    rcases executorStep_aix (tickInputs s) with h | h
    · exact .inl (by simpa using h)
    · exact .inr (.inl ⟨hst, by simpa using h, by simp⟩)
  | refusedInFault w rest _ _ => exact .inl (by simp)
  | accepted w rest _ hst =>
    rcases requestEffect_starts_or_answers w (s := accept w rest (tickInputs s)) (by simpa using hst) with
      ⟨-, haix⟩ | ⟨hexec, haix, -⟩
    · exact .inl (by simpa using haix)
    · exact .inr (.inr ⟨hst, hexec, haix⟩)

/-- Settles O38: outside a reset, only the executor and an accepted request move `ST`. -/
theorem sequencerTransitions : Obligations.SequencerTransitions := by
  intro s t hstep hne
  cases stepKind_of_step hstep with
  | resetAsserted rest hinputs => exact .inl ⟨.inl ⟨rest, hinputs⟩, rfl⟩
  | resetReleased rest hinputs _ _ => exact .inl ⟨.inr ⟨rest, hinputs⟩, rfl⟩
  | outside _ hsame => rw [hsame] at hne; exact absurd rfl hne
  | pulseEnds _ => simp at hne
  | listRuns _ _ hst =>
    have hcases := executorStep_st (s := tickInputs s) (by simpa using hst)
    simp only [tickInputs_st, tickInputs_act, tickInputs_aix, tickInputs_answers] at hcases
    obtain ⟨hend, hready⟩ | ⟨herr, hstop⟩ := hcases.resolve_left hne
    · rcases hst with hinit | hexec
      · exact .inr (.inl ⟨hinit, hready, hend⟩)
      · exact .inr (.inr (.inr (.inr ⟨hexec, hready, .inl hend⟩)))
    · rcases hst with hinit | hexec
      · exact .inr (.inr (.inl ⟨hinit, by simpa [hinit] using hstop, herr⟩))
      · exact .inr (.inr (.inr (.inr ⟨hexec, by simpa [hexec] using hstop, .inr herr⟩)))
  | refusedInFault w rest _ hst => simp [hst] at hne
  | accepted w rest hacc hst =>
    rcases requestEffect_starts_or_answers w (s := accept w rest (tickInputs s)) (by simpa using hst) with
      ⟨hready, -⟩ | ⟨hexec, -, hact⟩
    · exact absurd (hready.trans hst.symm) hne
    · exact .inr (.inr (.inr (.inl ⟨hst, hexec, hact, w, hacc⟩)))

/-! ## The shadows -/

/-- R108: an action of the list that runs changes a shadow only in INIT, where `AIX` reaches the shadow's step. -/
theorem executorStep_shadows (s : State) :
    ((executorStep s).func ≠ s.func →
      s.st = .init ∧ (executorStep s).aix = 26 ∧ (executorStep s).func = 0#1 ++ (s.cfgN ++ s.cfgF)) ∧
    ((executorStep s).dctl ≠ s.dctl → s.st = .init ∧ (executorStep s).aix = 36 ∧ (executorStep s).dctl = 0b100) ∧
    ((executorStep s).emode ≠ s.emode → s.st = .init ∧ (executorStep s).aix = 57 ∧ (executorStep s).emode = 0b10) := by
  rcases executorStep_cases s with ⟨-, he⟩ | ⟨b, -, ⟨-, he⟩ | ⟨rest, -, he⟩ | ⟨rest, -, he⟩⟩ | ⟨t, -, ⟨-, he⟩ | ⟨-, he⟩⟩ <;>
    rw [he]
  case inr.inl.inr.inl | inr.inr.inl =>
    simp only [advance_shadows, advance_aix]
    refine ⟨?_, ?_, ?_⟩ <;> split_ifs <;> simp_all
  all_goals simp

/-- R96: of the requests, FUNCTION_SET alone changes `FUNC`. -/
theorem requestEffect_func {i : Instr} {s : State} (h : (requestEffect i s).func ≠ s.func) :
    ∃ n f x, i = .cmdFunctionSet n f x ∧ (requestEffect i s).func = 0#1 ++ (n ++ f) := by
  cases i with
  | cmdFunctionSet n f x => exact ⟨n, f, x, rfl, by simp [requestEffect, sendCommand]⟩
  | _ => simp [requestEffect, sendCommand] at h

/-- R94: of the requests, DISPLAY_CONTROL alone changes `DCTL`. -/
theorem requestEffect_dctl {i : Instr} {s : State} (h : (requestEffect i s).dctl ≠ s.dctl) :
    ∃ d c b, i = .cmdDisplayControl d c b ∧ (requestEffect i s).dctl = d ++ (c ++ b) := by
  cases i with
  | cmdDisplayControl d c b => exact ⟨d, c, b, rfl, by simp [requestEffect, sendCommand]⟩
  | _ => simp [requestEffect, sendCommand] at h

/-- R93: of the requests, ENTRY_MODE_SET alone changes `EMODE`. -/
theorem requestEffect_emode {i : Instr} {s : State} (h : (requestEffect i s).emode ≠ s.emode) :
    ∃ d sh, i = .cmdEntryModeSet d sh ∧ (requestEffect i s).emode = d ++ sh := by
  cases i with
  | cmdEntryModeSet d sh => exact ⟨d, sh, rfl, by simp [requestEffect, sendCommand]⟩
  | _ => simp [requestEffect, sendCommand] at h

/-- Settles O41: outside a reset, only the executor in INIT and a request accepted in READY write a shadow. -/
theorem shadowsChangeOnlyAtTheirClass : Obligations.ShadowsChangeOnlyAtTheirClass := by
  intro s t hstep hreset
  cases stepKind_of_step hstep with
  | resetAsserted rest hinputs => exact absurd (.inl ⟨rest, hinputs⟩) hreset
  | resetReleased rest hinputs _ _ => exact absurd (.inr ⟨rest, hinputs⟩) hreset
  | outside _ hsame => rw [hsame]; exact ⟨absurd rfl, absurd rfl, absurd rfl⟩
  | pulseEnds _ => simp
  | listRuns _ _ _ =>
    obtain ⟨hfunc, hdctl, hemode⟩ := executorStep_shadows (tickInputs s)
    simp only [tickInputs_st, tickInputs_func, tickInputs_dctl, tickInputs_emode, tickInputs_cfgN, tickInputs_cfgF]
      at hfunc hdctl hemode
    exact ⟨fun h => .inl (hfunc h), fun h => .inl (hdctl h), fun h => .inl (hemode h)⟩
  | refusedInFault w rest _ _ => simp
  | accepted w rest hacc hst =>
    refine ⟨fun h => .inr ?_, fun h => .inr ?_, fun h => .inr ?_⟩
    · obtain ⟨n, f, x, hdecode, hval⟩ := requestEffect_func (s := accept w rest (tickInputs s)) (by simpa using h)
      exact ⟨w, n, f, x, hst, hacc, hdecode, hval⟩
    · obtain ⟨d, c, b, hdecode, hval⟩ := requestEffect_dctl (s := accept w rest (tickInputs s)) (by simpa using h)
      exact ⟨w, d, c, b, hst, hacc, hdecode, hval⟩
    · obtain ⟨d, sh, hdecode, hval⟩ := requestEffect_emode (s := accept w rest (tickInputs s)) (by simpa using h)
      exact ⟨w, d, sh, hst, hacc, hdecode, hval⟩

/-! ## The configuration latch and the reset values -/

/-- R18, R19: no request changes the configuration latch. -/
theorem requestEffect_cfg (i : Instr) (s : State) :
    (requestEffect i s).cfgAddr = s.cfgAddr ∧ (requestEffect i s).cfgN = s.cfgN ∧
      (requestEffect i s).cfgF = s.cfgF := by
  rw [requestEffect_frame]
  exact ⟨rfl, rfl, rfl⟩

/-- Settles O42: the release of an asserted reset alone writes the latch. -/
theorem configurationIsLatchedAtRelease : Obligations.ConfigurationIsLatchedAtRelease := by
  constructor
  · rintro s ⟨rest, hinputs⟩ hrst hrows
    rw [step_due hinputs]
    rcases releaseReset_cases (takeInput rest s) with ⟨hlow, -⟩ | ⟨-, hzero, -⟩ | ⟨-, -, hrelease⟩
    · exact absurd hlow (by simp [hrst])
    · exact absurd hzero hrows
    · exact ⟨_, hrelease, rfl, rfl, rfl⟩
  · intro s t hstep hrelease
    cases stepKind_of_step hstep with
    | resetAsserted rest _ => simp [assertReset, setRst]
    | resetReleased rest hinputs hrst _ => exact absurd ⟨⟨rest, hinputs⟩, hrst⟩ hrelease
    | outside _ hsame => rw [hsame]; exact ⟨rfl, rfl, rfl⟩
    | pulseEnds _ => simp
    | listRuns _ _ _ => simp
    | refusedInFault w rest _ _ => simp
    | accepted w rest _ _ => simpa using requestEffect_cfg (decode w) (accept w rest (tickInputs s))

/-- Settles O51: the reset values of R31, one by one. -/
theorem resetValues : Obligations.ResetValues := by
  intro pm addr rows font h
  exact ⟨rfl, rfl, rfl, rfl, rfl, rfl, rfl, rfl, rfl, rfl, rfl, rfl, rfl, rfl⟩

end Sys2Proof.Machine

/-! PROOFS. What the actions of every list are: the waits fit the timer (spec/10_state.md R26) and the written bytes carry
the backlight (R20). The fields of the status word (R28). -/

namespace Sys2Proof.Machine

open Sys2Proof.Config

/-! ## The actions of the lists -/

/-- What every action of a list the block builds is: a wait of at most 20000 us, or a write of a byte whose bits 3..1 hold
nothing but the backlight term and, where it is raised, EN. -/
inductive ListAction (pm : PinMap) (bl : Bit) : Action → Prop where
  | wait (t : Nat) (hle : t ≤ 20000) : ListAction pm bl (.wait t)
  | enLow (n : Byte) (hlow : n &&& 0x0E = 0) : ListAction pm bl (.write (n ||| blTerm pm bl))
  | enHigh (n : Byte) (hlow : n &&& 0x0E = 0) : ListAction pm bl (.write (n ||| enMask pm ||| blTerm pm bl))

/-- Every action of a list is a `ListAction`. -/
def ListActions (pm : PinMap) (bl : Bit) (l : List Action) : Prop := ∀ a ∈ l, ListAction pm bl a

theorem listActions_append {pm : PinMap} {bl : Bit} {l m : List Action} :
    ListActions pm bl (l ++ m) ↔ ListActions pm bl l ∧ ListActions pm bl m := List.forall_mem_append

theorem listActions_wait {pm : PinMap} {bl : Bit} {t : Nat} (h : t ≤ 20000) : ListActions pm bl [.wait t] :=
  List.forall_mem_singleton.mpr (.wait t h)

theorem listActions_expanderWrite {n : Byte} (pm : PinMap) (bl : Bit) (h : n &&& 0x0E = 0) :
    ListActions pm bl (expanderWrite pm bl n) :=
  List.forall_mem_singleton.mpr (.enLow n h)

theorem listActions_writeNibble {n : Byte} (pm : PinMap) (bl : Bit) (h : n &&& 0x0E = 0) :
    ListActions pm bl (writeNibble pm bl n) := by
  rw [writeNibble_eq, clear_en pm n h]
  intro a ha
  simp only [List.mem_cons, List.not_mem_nil, or_false] at ha
  rcases ha with rfl | rfl | rfl | rfl | rfl
  · exact .enLow n h
  · exact .enHigh n h
  · exact .wait 1 (by decide)
  · exact .enLow n h
  · exact .wait 50 (by decide)

theorem listActions_send (pm : PinMap) (bl : Bit) (v : Byte) (m : Bit) : ListActions pm bl (send pm bl v m) :=
  let ⟨hhi, hlo⟩ := nibble_bytes_low_bits v m
  listActions_append.mpr ⟨listActions_writeNibble pm bl hhi, listActions_writeNibble pm bl hlo⟩

theorem listActions_cmdList (pm : PinMap) (bl : Bit) (v : Byte) : ListActions pm bl (cmdList pm bl v) := by
  rw [cmdList_eq, listActions_append]
  refine ⟨listActions_send pm bl v 0, ?_⟩
  split
  · exact listActions_wait (by decide)
  · exact List.forall_mem_nil _

theorem listActions_requestList {pm : PinMap} {bl : Bit} {w : ReqWord} {l : List Action}
    (h : requestList pm bl w = some l) : ListActions pm bl l := by
  rcases requestList_some h with rfl | rfl
  · exact listActions_cmdList pm bl _
  · exact listActions_send pm bl _ 1

theorem listActions_initList (pm : PinMap) (bl n f : Bit) : ListActions pm bl (initList pm bl n f) := by
  have hreset := listActions_writeNibble (n := functionResetNibble) pm bl (by decide)
  have hfour := listActions_writeNibble (n := fourBitNibble) pm bl (by decide)
  have hzero := listActions_expanderWrite (n := 0x00) pm bl (by decide)
  have hsend := listActions_send pm bl
  have hwait {t : Nat} (ht : t ≤ 20000) := listActions_wait (pm := pm) (bl := bl) ht
  simp only [initList, initStep1, initStep2, initStep3, initStep4, initStep5, initStep6, initStep7, initStep8,
    listActions_append, hreset, hfour, hzero, hsend, true_and, and_true, and_assoc]
  exact ⟨hwait (by decide), hwait (by decide), hwait (by decide), hwait (by decide), hwait (by decide),
    hwait (by decide)⟩

/-! ## The waits -/

theorem wait_le_of_listActions {pm : PinMap} {bl : Bit} {l : List Action} {t : Nat} (h : ListActions pm bl l)
    (hmem : Action.wait t ∈ l) : t ≤ 20000 := by
  cases h _ hmem with
  | wait _ hle => exact hle

/-- Settles O26: the waits of every list are at most 20000, below 2 ^ 16. -/
theorem waitsFitTheTimer : Obligations.WaitsFitTheTimer := by
  have hfits {t : Nat} (h : t ≤ 20000) : t ≤ 20000 ∧ (BitVec.ofNat 16 t).toNat = t :=
    ⟨h, Nat.mod_eq_of_lt (h.trans_lt (by decide))⟩
  intro pm bl t
  exact ⟨fun n f hmem => hfits (wait_le_of_listActions (listActions_initList pm bl n f) hmem),
    fun w l hlist hmem => hfits (wait_le_of_listActions (listActions_requestList hlist) hmem)⟩

/-! ## The bytes on the bus port -/

/-- R7: what the masks have in common with each other and with the bits that neither uses. -/
theorem masks_disjoint {pm : PinMap} (h : pm.wf = true) :
    enMask pm &&& blMask pm = 0 ∧ enMask pm &&& unusedMask pm = 0 ∧ blMask pm &&& unusedMask pm = 0 ∧
      0x0E &&& blMask pm = blMask pm ∧ 0x0E &&& unusedMask pm = unusedMask pm := by
  obtain ⟨en, bl⟩ := pm
  cases en <;> cases bl <;> revert h <;> decide

/-- R52: a byte whose bits 3..1 are 0 meets no mask within them. -/
theorem and_eq_zero_of_low_bits {n mask : Byte} (hlow : n &&& 0x0E = 0) (hmask : 0x0E &&& mask = mask) :
    n &&& mask = 0 := by
  rw [← hmask, ← BitVec.and_assoc, hlow]
  exact BitVec.zero_and

/-- R7, R73: what the backlight term has in common with the backlight mask and with the unused bits. -/
theorem blTerm_and_masks {pm : PinMap} (bl : Bit) (h : pm.wf = true) :
    blTerm pm bl &&& blMask pm = (if bl = 1 then blMask pm else 0) ∧ blTerm pm bl &&& unusedMask pm = 0 := by
  obtain ⟨-, -, hunused, -, -⟩ := masks_disjoint h
  unfold blTerm
  split <;> simp [hunused]

/-- R20, R36: a written byte has the backlight bit of `bl`, and the bit no mask uses is 0. -/
theorem write_carries_backlight {pm : PinMap} {bl : Bit} {b : Byte} (hwf : pm.wf = true)
    (h : ListAction pm bl (.write b)) :
    b &&& blMask pm = (if bl = 1 then blMask pm else 0) ∧ b &&& unusedMask pm = 0 := by
  obtain ⟨henbl, henun, -, hblin, hunin⟩ := masks_disjoint hwf
  obtain ⟨hterm, htermun⟩ := blTerm_and_masks bl hwf
  cases h with
  | enLow n hlow =>
    have hn := and_eq_zero_of_low_bits hlow hblin
    have hnun := and_eq_zero_of_low_bits hlow hunin
    simp [BitVec.and_or_distrib_right, hn, hnun, hterm, htermun]
  | enHigh n hlow =>
    have hn := and_eq_zero_of_low_bits hlow hblin
    have hnun := and_eq_zero_of_low_bits hlow hunin
    simp [BitVec.and_or_distrib_right, hn, hnun, henbl, henun, hterm, htermun]

/-- R34: the byte on the bus port is the write at `AIX` of the list that runs, and goes to `CFG_ADDR`. -/
theorem busOut_some {s : State} {addr : I2cAddr} {b : Byte} (h : busOut s = some (addr, b)) :
    (s.st = .init ∨ s.st = .exec) ∧ addr = s.cfgAddr ∧ s.act[s.aix]? = some (.write b) := by
  unfold busOut at h
  split_ifs at h with hquiet
  have hrun : s.st = .init ∨ s.st = .exec := by
    simp only [running, Bool.or_eq_true, Bool.not_eq_true', not_or] at hquiet
    exact or_iff_not_imp_left.mpr (by simpa using hquiet.2)
  split at h <;> simp_all

/-- In a state that meets the invariant, the list that runs is one the block builds, with `BL` as it is. -/
theorem listActions_of_running {s : State} (h : s.Inv) (hrun : s.st = .init ∨ s.st = .exec) :
    ListActions s.pinMap s.bl s.act := by
  rcases hrun with hst | hst
  · obtain ⟨hlist, -, hbl, -⟩ := h.inInit hst
    rw [hlist, hbl]
    exact listActions_initList _ _ _ _
  · exact listActions_requestList (h.inExec hst).list

/-- Settles O44: the write on the bus port is an action of a list the block builds. -/
theorem busBytesCarryTheBacklight : Obligations.BusBytesCarryTheBacklight := by
  intro s addr b hinv hbus
  obtain ⟨hrun, haddr, hact⟩ := busOut_some hbus
  exact ⟨haddr, write_carries_backlight hinv.masks
    (listActions_of_running hinv hrun _ (List.mem_of_getElem? hact))⟩

/-! ## The status word -/

/-- R28: the fields of a word laid out as the status word is. -/
theorem extractLsb'_statusFields (f : BitVec 3) (e : BitVec 2) (d : BitVec 3) (b : Bit) (r t : BitVec 2) :
    let w := 0#3 ++ (f ++ (e ++ (d ++ (b ++ (r ++ t)))))
    w.extractLsb' 0 2 = t ∧ w.extractLsb' 2 2 = r ∧ w.extractLsb' 4 1 = b ∧ w.extractLsb' 5 3 = d ∧
      w.extractLsb' 8 2 = e ∧ w.extractLsb' 10 3 = f ∧ w.extractLsb' 13 3 = 0 := by
  simp (disch := omega) only [BitVec.extractLsb'_append_eq_of_add_le]
  exact ⟨BitVec.extractLsb'_eq_self, BitVec.extractLsb'_append_eq_left, BitVec.extractLsb'_append_eq_left,
    BitVec.extractLsb'_append_eq_left, BitVec.extractLsb'_append_eq_left, BitVec.extractLsb'_append_eq_left,
    BitVec.extractLsb'_append_eq_left⟩

/-- Settles O31: the fields of the status word lie side by side. -/
theorem statusWordLayout : Obligations.StatusWordLayout := by
  intro s
  obtain ⟨hst, hresp, hrest⟩ :=
    extractLsb'_statusFields s.func s.emode s.dctl s.bl (respCodeBits s.lastResp) (stCode s.st)
  exact ⟨hst, hresp, hrest⟩

end Sys2Proof.Machine

/-! PROOFS. The shadows reach nothing but themselves (spec/10_state.md R21): each operation of the machine takes states that
differ in them alone to states that differ in them alone. -/

namespace Sys2Proof.Machine

open Sys2Proof.Config

/-- The state with the shadows replaced. -/
def withShadows (f d : BitVec 3) (e : BitVec 2) (s : State) : State := { s with func := f, dctl := d, emode := e }

theorem sameButShadows_iff {s t : State} : SameButShadows s t ↔ ∃ f d e, t = withShadows f d e s := by
  constructor
  · intro h
    exact ⟨_, _, _, h⟩
  · rintro ⟨f, d, e, rfl⟩
    rfl

/-- Whether a pin event is due is read off the list of the coming events. -/
theorem dueInput_eq_none {s : State} : dueInput s = none ↔ ∀ e rest, s.inputs ≠ (0, e) :: rest := by
  unfold dueInput
  split <;> simp_all

/-- Where the first outcome goes on, the second goes on to a state that differs from it in the shadows alone. -/
def FollowsButShadows (o p : Host.Outcome State Fault Refusal) : Prop :=
  ∀ t, o = .next t → ∃ u, p = .next u ∧ SameButShadows t u

theorem followsButShadows_next {s t : State} (h : SameButShadows s t) : FollowsButShadows (.next s) (.next t) := by
  rintro _ ⟨⟩
  exact ⟨t, rfl, h⟩

section

variable {s t : State} (h : SameButShadows s t)
include h

/-! ## The executor -/

theorem sameButShadows_armTimer : SameButShadows (armTimer s) (armTimer t) := by
  obtain ⟨f, d, e, rfl⟩ := sameButShadows_iff.mp h
  unfold SameButShadows armTimer withShadows
  dsimp only
  split <;> rfl

/-- R108: what init step's shadow is written, and which, is the same from both. -/
theorem sameButShadows_initShadow : SameButShadows (initShadow s) (initShadow t) := by
  obtain ⟨f, d, e, rfl⟩ := sameButShadows_iff.mp h
  rw [initShadow_frame, initShadow_frame]
  rfl

theorem sameButShadows_finishList : SameButShadows (finishList s) (finishList t) := by
  obtain ⟨f, d, e, rfl⟩ := sameButShadows_iff.mp h
  unfold SameButShadows finishList withShadows
  dsimp only
  split <;> rfl

theorem sameButShadows_abortList : SameButShadows (abortList s) (abortList t) := by
  obtain ⟨f, d, e, rfl⟩ := sameButShadows_iff.mp h
  unfold SameButShadows abortList withShadows
  dsimp only
  split <;> rfl

theorem sameButShadows_nextIndex : SameButShadows (nextIndex s) (nextIndex t) := by
  obtain ⟨f, d, e, rfl⟩ := sameButShadows_iff.mp h
  rfl

theorem sameButShadows_advance : SameButShadows (advance s) (advance t) := by
  have hnext := sameButShadows_nextIndex h
  have hcond : (t.aix + 1 < t.act.length) = (s.aix + 1 < s.act.length) := by rw [h]
  unfold advance
  simp only [hcond]
  split_ifs
  · exact sameButShadows_armTimer (sameButShadows_initShadow hnext)
  · exact sameButShadows_finishList hnext

theorem sameButShadows_executorStep : SameButShadows (executorStep s) (executorStep t) := by
  obtain ⟨f, d, e, rfl⟩ := sameButShadows_iff.mp h
  have hact : (withShadows f d e s).act[(withShadows f d e s).aix]? = s.act[s.aix]? := rfl
  unfold executorStep
  rw [hact]
  rcases s.act[s.aix]? with _ | ⟨b | t⟩
  · exact sameButShadows_finishList h
  · have hans : (withShadows f d e s).answers = s.answers := rfl
    show SameButShadows (writeAction b s) (writeAction b (withShadows f d e s))
    unfold writeAction
    rw [hans]
    rcases s.answers with _ | ⟨_ | _, rest⟩
    · exact h
    · exact sameButShadows_advance rfl
    · exact sameButShadows_abortList rfl
  · show SameButShadows (if s.tmr = 0 then _ else _) (if s.tmr = 0 then _ else _)
    split_ifs
    · exact sameButShadows_advance rfl
    · rfl

/-! ## Requests -/

theorem sameButShadows_respond (c : RespCode) : SameButShadows (respond c s) (respond c t) := by
  obtain ⟨f, d, e, rfl⟩ := sameButShadows_iff.mp h
  rfl

theorem sameButShadows_startList (l : List Action) : SameButShadows (startList l s) (startList l t) := by
  obtain ⟨f, d, e, rfl⟩ := sameButShadows_iff.mp h
  exact sameButShadows_armTimer rfl

theorem sameButShadows_sendCommand (v : Byte) (tail : List Action) :
    SameButShadows (sendCommand v tail s) (sendCommand v tail t) := by
  obtain ⟨f, d, e, rfl⟩ := sameButShadows_iff.mp h
  exact sameButShadows_startList (by rfl) _

/-- R82: a request's list is made of its word and of `BL`, and no shadow is read. -/
theorem sameButShadows_requestEffect (i : Instr) : SameButShadows (requestEffect i s) (requestEffect i t) := by
  obtain ⟨f, d, e, rfl⟩ := sameButShadows_iff.mp h
  cases i with
  | cmdClear | cmdHome _ | cmdCursorShift _ _ _ | cmdSetCgramAddr _ | cmdSetDdramAddr _ =>
    exact sameButShadows_sendCommand h _ _
  | cmdEntryModeSet _ _ | cmdDisplayControl _ _ _ | cmdFunctionSet _ _ _ => exact sameButShadows_sendCommand (by rfl) _ _
  | data v => exact sameButShadows_startList h _
  | setbl b => exact sameButShadows_respond (by rfl) _
  | illegalCmdZero | illegalFunctionSetDl1 _ | illegalSetbl _ _ | illegalOp _ => exact sameButShadows_respond h _

theorem followsButShadows_exec (i : Instr) : FollowsButShadows (exec i s) (exec i t) := by
  rw [exec_eq_dispatch, exec_eq_dispatch]
  have hst : t.st = s.st := by rw [h]
  unfold dispatch
  rw [hst]
  cases s.st with
  | fault => exact followsButShadows_next (sameButShadows_respond h _)
  | ready => exact followsButShadows_next (sameButShadows_requestEffect h i)
  | init | exec => exact followsButShadows_next h

/-! ## A step -/

theorem followsButShadows_requestStep : FollowsButShadows (requestStep s) (requestStep t) := by
  obtain ⟨f, d, e, rfl⟩ := sameButShadows_iff.mp h
  have hqueue : (withShadows f d e s).hostQueue = s.hostQueue := rfl
  unfold requestStep
  rw [hqueue]
  rcases s.hostQueue with _ | ⟨w, rest⟩
  · exact followsButShadows_next h
  · exact followsButShadows_exec (by rfl) _

theorem followsButShadows_blockStep : FollowsButShadows (blockStep s) (blockStep t) := by
  obtain ⟨f, d, e, rfl⟩ := sameButShadows_iff.mp h
  have hst : (withShadows f d e s).st = s.st := rfl
  unfold blockStep
  rw [show (withShadows f d e s).rst = s.rst from rfl, show (withShadows f d e s).rsp = s.rsp from rfl, hst]
  split_ifs
  · exact followsButShadows_next h
  · exact followsButShadows_next rfl
  · cases s.st with
    | init | exec => exact followsButShadows_next (sameButShadows_executorStep h)
    | ready | fault => exact followsButShadows_requestStep h

theorem sameButShadows_abandonWrite : SameButShadows (abandonWrite s) (abandonWrite t) := by
  obtain ⟨f, d, e, rfl⟩ := sameButShadows_iff.mp h
  unfold abandonWrite
  rw [show busOut (withShadows f d e s) = busOut s from rfl]
  split <;> rfl

theorem sameButShadows_assertReset : SameButShadows (assertReset s) (assertReset t) := by
  obtain ⟨f, d, e, habandon⟩ := sameButShadows_iff.mp (sameButShadows_abandonWrite h)
  obtain ⟨f', d', e', rfl⟩ := sameButShadows_iff.mp h
  unfold assertReset
  rw [habandon]
  rfl

/-- R130: the release of reset overwrites the shadows. -/
theorem followsButShadows_releaseReset : FollowsButShadows (releaseReset s) (releaseReset t) := by
  obtain ⟨f, d, e, rfl⟩ := sameButShadows_iff.mp h
  unfold releaseReset
  rw [show (withShadows f d e s).rst = s.rst from rfl, show (withShadows f d e s).cfgRowsPin = s.cfgRowsPin from rfl]
  split_ifs
  · exact followsButShadows_next h
  · intro u hnext
    simp at hnext
  · exact followsButShadows_next rfl

theorem followsButShadows_applyInput (e : Input) : FollowsButShadows (applyInput e s) (applyInput e t) := by
  cases e with
  | assertReset => exact followsButShadows_next (sameButShadows_assertReset h)
  | releaseReset => exact followsButShadows_releaseReset h
  | setConfig _ _ _ | request _ | answer _ =>
    obtain ⟨f, d, e, rfl⟩ := sameButShadows_iff.mp h
    exact followsButShadows_next rfl

theorem sameButShadows_tickInputs : SameButShadows (tickInputs s) (tickInputs t) := by
  obtain ⟨f, d, e, rfl⟩ := sameButShadows_iff.mp h
  unfold tickInputs withShadows
  dsimp only
  split <;> rfl

theorem followsButShadows_step : FollowsButShadows (step s) (step t) := by
  have hinputs : t.inputs = s.inputs := by rw [h]
  rcases hdue : dueInput s with _ | ⟨e, u⟩
  · have hdue' : dueInput t = none := by rwa [dueInput_eq_none, hinputs, ← dueInput_eq_none]
    rw [step_not_due hdue, step_not_due hdue']
    exact followsButShadows_blockStep (sameButShadows_tickInputs h)
  · obtain ⟨rest, hhead, -⟩ := dueInput_some hdue
    rw [step_due hhead, step_due (hinputs.trans hhead)]
    obtain ⟨f, d, e, rfl⟩ := sameButShadows_iff.mp h
    exact followsButShadows_applyInput (by rfl) _

end

/-- Settles O45: no part of a step reads a shadow. -/
theorem shadowsDoNotReachTheBus : Obligations.ShadowsDoNotReachTheBus := fun _ _ t hsame hstep =>
  followsButShadows_step hsame t hstep

end Sys2Proof.Machine

/-! PROOFS. What the block puts on the LCD's lines and on the bus (spec/20_memory.md R34, R37, R38), and what it does where
nothing comes from the host (R32, R46). -/

namespace Sys2Proof.Machine

open Sys2Proof.Config

/-! ## Nibble transfers -/

/-- R36, R76: the transfer of a nibble byte is laid out by the expander's lines. -/
theorem writeNibble_eq_nibbleForm (pm : PinMap) (bl : Bit) (nib : BitVec 4) (rs : Bit) :
    writeNibble pm bl (nib ++ (0#3 ++ rs)) = nibbleForm pm bl nib rs := by
  have hlow : ∀ (nib : BitVec 4) (rs : Bit), (nib ++ (0#3 ++ rs)) &&& 0x0E#8 = 0 := by decide
  rw [writeNibble_eq, clear_en pm _ (hlow nib rs)]
  rfl

/-- Settles O18: `hi` and `lo` are the nibbles with the mode on bit 0, and each is one transfer. -/
theorem sendIsTwoNibbleTransfersHighFirst : Obligations.SendIsTwoNibbleTransfersHighFirst := by
  intro pm bl v m
  unfold send byteForm
  rw [hi_eq_fields, lo_eq_fields, writeNibble_eq_nibbleForm, writeNibble_eq_nibbleForm]

theorem pulseCount_append (pm : PinMap) (l m : List Action) :
    pulseCount pm (l ++ m) = pulseCount pm l + pulseCount pm m := by
  simp [pulseCount]

theorem pulseCount_wait (pm : PinMap) (t : Nat) (l : List Action) :
    pulseCount pm (.wait t :: l) = pulseCount pm l := rfl

theorem pulseCount_enLow {pm : PinMap} {b : Byte} (l : List Action) (h : b &&& enMask pm = 0) :
    pulseCount pm (.write b :: l) = pulseCount pm l := by
  simp [pulseCount, h]

theorem pulseCount_enHigh {pm : PinMap} {b : Byte} (l : List Action) (h : b &&& enMask pm ≠ 0#8) :
    pulseCount pm (.write b :: l) = pulseCount pm l + 1 := by
  simp [pulseCount, h]

/-- R7: EN is one of the bits 3..1. -/
theorem enMask_in_low_bits (pm : PinMap) : 0x0E &&& enMask pm = enMask pm ∧ enMask pm ≠ 0 := by
  have hline : ∀ l : Line, 0x0E &&& lineMask l = lineMask l ∧ lineMask l ≠ 0 := by
    intro l; cases l <;> decide
  exact hline pm.en

/-- R7, R73: the backlight term does not raise EN. -/
theorem blTerm_and_enMask {pm : PinMap} (bl : Bit) (h : pm.wf = true) : blTerm pm bl &&& enMask pm = 0 := by
  obtain ⟨hdisjoint, -⟩ := masks_disjoint h
  unfold blTerm
  split
  · rw [BitVec.and_comm, hdisjoint]
  · exact BitVec.zero_and

/-- R38: one nibble transfer raises EN once, in its second byte. -/
theorem pulseCount_writeNibble {pm : PinMap} {n : Byte} (bl : Bit) (h : pm.wf = true) (hlow : n &&& 0x0E = 0) :
    pulseCount pm (writeNibble pm bl n) = 1 := by
  obtain ⟨hin, hne⟩ := enMask_in_low_bits pm
  have hn := and_eq_zero_of_low_bits hlow hin
  have hbl := blTerm_and_enMask bl h
  have hdown : (n ||| blTerm pm bl) &&& enMask pm = 0 := by simp [BitVec.and_or_distrib_right, hn, hbl]
  have hup : (n ||| enMask pm ||| blTerm pm bl) &&& enMask pm ≠ 0#8 := by
    simpa [BitVec.and_or_distrib_right, hn, hbl] using hne
  rw [writeNibble_eq, clear_en pm n hlow, pulseCount_enLow _ hdown, pulseCount_enHigh _ hup, pulseCount_wait,
    pulseCount_enLow _ hdown, pulseCount_wait]
  rfl

theorem pulseCount_send {pm : PinMap} (bl : Bit) (v : Byte) (m : Bit) (h : pm.wf = true) :
    pulseCount pm (send pm bl v m) = 2 := by
  obtain ⟨hhi, hlo⟩ := nibble_bytes_low_bits v m
  rw [send, pulseCount_append, pulseCount_writeNibble bl h hhi, pulseCount_writeNibble bl h hlo]

/-- Settles O25: every list is one send, of two transfers, and at most a wait after it. -/
theorem nibbleTransfersComeInPairs : Obligations.NibbleTransfersComeInPairs := by
  intro pm bl w l hwf hlist
  rcases requestList_some hlist with rfl | rfl
  · rw [cmdList_eq, pulseCount_append, pulseCount_send bl _ 0 hwf]
    split
    · rw [pulseCount_wait]
      rfl
    · rfl
  · exact pulseCount_send bl _ 1 hwf

/-! ## Completed writes -/

/-- The observation of `t` is that of `s` and after it events of which none is a completed write. -/
def EmitsNoWrite (s t : State) : Prop :=
  ∃ new, t.events = s.events ++ new ∧ ∀ addr b r, Event.write addr b r ∉ new

theorem emitsNoWrite_of_events_eq {s t : State} (h : t.events = s.events) : EmitsNoWrite s t :=
  ⟨[], by simpa using h, by simp⟩

theorem emitsNoWrite_of_event {s t : State} {e : Event} (h : t.events = s.events ++ [e])
    (hne : ∀ addr b r, Event.write addr b r ≠ e) : EmitsNoWrite s t :=
  ⟨[e], h, fun addr b r hmem => hne addr b r (List.mem_singleton.mp hmem)⟩

theorem EmitsNoWrite.trans {s t u : State} (hst : EmitsNoWrite s t) (htu : EmitsNoWrite t u) : EmitsNoWrite s u := by
  obtain ⟨new, hnew, hno⟩ := hst
  obtain ⟨more, hmore, hno'⟩ := htu
  refine ⟨new ++ more, by rw [hmore, hnew, List.append_assoc], fun addr b r hmem => ?_⟩
  exact (List.mem_append.mp hmem).elim (hno addr b r) (hno' addr b r)

theorem emitsNoWrite_respond (c : RespCode) (s : State) : EmitsNoWrite s (respond c s) :=
  emitsNoWrite_of_event (respond_events s c) nofun

theorem emitsNoWrite_finishList (s : State) : EmitsNoWrite s (finishList s) := by
  unfold finishList
  split
  · exact emitsNoWrite_of_events_eq rfl
  all_goals exact emitsNoWrite_respond _ s

theorem emitsNoWrite_abortList (s : State) : EmitsNoWrite s (abortList s) := by
  unfold abortList
  split
  · exact emitsNoWrite_of_events_eq rfl
  all_goals exact emitsNoWrite_respond _ s

theorem emitsNoWrite_advance (s : State) : EmitsNoWrite s (advance s) := by
  by_cases h : s.aix + 1 < s.act.length
  · rw [advance_within h]
    exact emitsNoWrite_of_events_eq (by simp)
  · rw [advance_end (Nat.not_lt.mp h)]
    exact emitsNoWrite_finishList (nextIndex s)

theorem emitsNoWrite_requestEffect (w : ReqWord) {s : State} (hst : s.st = .ready) :
    EmitsNoWrite s (requestEffect (decode w) s) := by
  rcases requestEffect_decode_cases w hst with he | ⟨-, -, he⟩ | ⟨-, -, he⟩ | ⟨b, he⟩ <;> rw [he]
  · exact emitsNoWrite_respond _ s
  · exact emitsNoWrite_of_events_eq (by simp)
  · exact emitsNoWrite_of_events_eq (by simp)
  · exact emitsNoWrite_respond .ok { s with bl := b }

/-- R129: a write that reset interrupts is abandoned, not completed. -/
theorem emitsNoWrite_assertReset (s : State) : EmitsNoWrite s (assertReset s) := by
  show EmitsNoWrite s (abandonWrite s)
  unfold abandonWrite
  split
  · exact emitsNoWrite_of_event rfl nofun
  · exact emitsNoWrite_of_events_eq rfl

/-- R128: no pin event completes a write. -/
theorem emitsNoWrite_applyInput {e : Input} {s t : State} (h : applyInput e s = .next t) : EmitsNoWrite s t := by
  rcases applyInput_next h with ⟨-, rfl⟩ | ⟨-, -, rfl⟩ | ⟨-, -, -, rfl⟩ | ⟨a, r, f, -, rfl⟩ | ⟨w, -, rfl⟩ | ⟨a, -, rfl⟩
  · exact emitsNoWrite_assertReset s
  all_goals exact emitsNoWrite_of_events_eq rfl

/-- R34, R35: between `s` and `t` the write on the bus port completes, and no other write does. -/
def CompletesBusWrite (s t : State) : Prop :=
  ∃ b r, busOut s = some (s.cfgAddr, b) ∧ EmitsNoWrite (logEvent (.write s.cfgAddr b r) s) t

theorem busOut_of_write {s : State} {b : Byte} (hrst : s.rst = false) (hrun : s.st = .init ∨ s.st = .exec)
    (hact : s.act[s.aix]? = some (.write b)) : busOut s = some (s.cfgAddr, b) := by
  rcases hrun with hst | hst <;> simp [busOut, running, hrst, hst, hact]

/-- R78: an action of the list that runs completes the write on the bus port, or none. -/
theorem executorStep_writes {s : State} (hrst : s.rst = false) (hrun : s.st = .init ∨ s.st = .exec) :
    EmitsNoWrite s (executorStep s) ∨ CompletesBusWrite s (executorStep s) := by
  rcases executorStep_cases s with ⟨-, he⟩ | ⟨b, hact, ⟨-, he⟩ | ⟨rest, -, he⟩ | ⟨rest, -, he⟩⟩ |
    ⟨t, -, ⟨-, he⟩ | ⟨-, he⟩⟩ <;> rw [he]
  · exact .inl (emitsNoWrite_finishList s)
  · exact .inl (emitsNoWrite_of_events_eq rfl)
  · exact .inr ⟨b, .ok, busOut_of_write hrst hrun hact, emitsNoWrite_advance (logEvent _ (takeAnswer rest s))⟩
  · exact .inr ⟨b, .err, busOut_of_write hrst hrun hact, emitsNoWrite_abortList (logEvent _ (takeAnswer rest s))⟩
  · exact .inl ((emitsNoWrite_of_event (logEvent_events s (.wait t)) nofun).trans (emitsNoWrite_advance _))
  · exact .inl (emitsNoWrite_of_events_eq rfl)

/-- A step of the block completes the write on the bus port, or none. -/
theorem blockStep_writes {s t : State} (h : blockStep s = .next t) : EmitsNoWrite s t ∨ CompletesBusWrite s t := by
  rcases blockStep_next h with ⟨-, rfl⟩ | ⟨-, -, rfl⟩ | ⟨hrst, -, hrun, rfl⟩ | ⟨-, -, -, -, rfl⟩ |
    ⟨w, rest, -, -, -, -, hexec⟩
  · exact .inl (emitsNoWrite_of_events_eq rfl)
  · exact .inl (emitsNoWrite_of_events_eq rfl)
  · exact executorStep_writes hrst hrun
  · exact .inl (emitsNoWrite_of_events_eq rfl)
  · rw [exec_eq_dispatch] at hexec
    rcases dispatch_next hexec with ⟨-, rfl⟩ | ⟨hready, rfl⟩ | ⟨-, rfl⟩
    · exact .inl (emitsNoWrite_respond _ (accept w rest s))
    · exact .inl (emitsNoWrite_requestEffect w hready)
    · exact .inl (emitsNoWrite_of_events_eq rfl)

/-- The coming pin events do not show on the bus port. -/
@[simp] theorem busOut_tickInputs (s : State) : busOut (tickInputs s) = busOut s := by
  rw [tickInputs_frame]
  rfl

/-- A step completes the write on the bus port, or none. -/
theorem step_writes {s t : State} (h : step s = .next t) : EmitsNoWrite s t ∨ CompletesBusWrite s t := by
  rcases step_next h with ⟨e, rest, -, happly⟩ | ⟨-, hblock⟩
  · have htake : EmitsNoWrite s (takeInput rest s) := emitsNoWrite_of_events_eq rfl
    exact .inl (htake.trans (emitsNoWrite_applyInput happly))
  · simpa [EmitsNoWrite, CompletesBusWrite] using blockStep_writes hblock

/-- Settles O43: a write completes only in a step that finds it on the bus port. -/
theorem busWritesGoToCfgAddr : Obligations.BusWritesGoToCfgAddr := by
  refine ⟨fun s addr b hbus => (busOut_some hbus).2.1, fun s t hstep => ?_⟩
  rcases step_writes hstep with ⟨new, hnew, hno⟩ | ⟨b, r, hbus, new, hnew, hno⟩
  · exact ⟨new, hnew, fun addr b r hmem => absurd hmem (hno addr b r)⟩
  · refine ⟨.write s.cfgAddr b r :: new, by simpa using hnew, fun addr b' r' hmem => ?_⟩
    rcases List.mem_cons.mp hmem with heq | hmem
    · cases heq
      exact ⟨rfl, hbus⟩
    · exact absurd hmem (hno addr b' r')

/-! ## Between requests -/

/-- Settles O35: no list runs, so the port is idle, and the block ends its pulse or waits for a word. -/
theorem betweenRequestsTheBlockIsIdle : Obligations.BetweenRequestsTheBlockIsIdle := by
  intro s hrst hdue hst
  rw [step_not_due hdue]
  refine ⟨?_, fun c hrsp => ?_, fun hrsp hqueue => ?_⟩
  · rcases hst with h | h <;> simp [busOut, running, h]
  · simp [blockStep, hrst, hrsp, endPulse]
  · rcases hst with h | h <;> simp [blockStep, requestStep, hrst, hrsp, hqueue, h]

/-! ## A running list and the host -/

/-- The state with other words presented by the host and other levels on the configuration pins. -/
def withHost (queue : List ReqWord) (addr : I2cAddr) (rows : BitVec 8) (font : Bit) (s : State) : State :=
  { s with hostQueue := queue, cfgAddrPin := addr, cfgRowsPin := rows, cfgFontPin := font }

theorem sameButHost_iff {s t : State} : SameButHost s t ↔ ∃ q a r f, t = withHost q a r f s := by
  constructor
  · intro h
    exact ⟨_, _, _, _, h⟩
  · rintro ⟨q, a, r, f, rfl⟩
    rfl

section

variable (q : List ReqWord) (a : I2cAddr) (r : BitVec 8) (f : Bit) (s : State)

theorem armTimer_withHost : armTimer (withHost q a r f s) = withHost q a r f (armTimer s) := by
  unfold armTimer withHost
  dsimp only
  split <;> rfl

theorem initShadow_withHost : initShadow (withHost q a r f s) = withHost q a r f (initShadow s) := by
  rw [initShadow_frame, initShadow_frame]
  rfl

theorem finishList_withHost : finishList (withHost q a r f s) = withHost q a r f (finishList s) := by
  unfold finishList withHost
  dsimp only
  split <;> rfl

theorem abortList_withHost : abortList (withHost q a r f s) = withHost q a r f (abortList s) := by
  unfold abortList withHost
  dsimp only
  split <;> rfl

theorem advance_withHost : advance (withHost q a r f s) = withHost q a r f (advance s) := by
  have hnext : nextIndex (withHost q a r f s) = withHost q a r f (nextIndex s) := rfl
  by_cases h : s.aix + 1 < s.act.length
  · rw [advance_within h, advance_within (s := withHost q a r f s) h, hnext, initShadow_withHost, armTimer_withHost]
  · have hend := Nat.not_lt.mp h
    rw [advance_end hend, advance_end (s := withHost q a r f s) hend, hnext, finishList_withHost]

/-- R78: the executor reads nothing of the host. -/
theorem executorStep_withHost : executorStep (withHost q a r f s) = withHost q a r f (executorStep s) := by
  have hact : (withHost q a r f s).act[(withHost q a r f s).aix]? = s.act[s.aix]? := rfl
  unfold executorStep
  rw [hact]
  rcases s.act[s.aix]? with _ | ⟨b | t⟩
  · exact finishList_withHost q a r f s
  · have hans : (withHost q a r f s).answers = s.answers := rfl
    show writeAction b (withHost q a r f s) = withHost q a r f (writeAction b s)
    unfold writeAction
    rw [hans]
    rcases s.answers with _ | ⟨_ | _, rest⟩
    · rfl
    · exact advance_withHost q a r f (logEvent _ (takeAnswer rest s))
    · exact abortList_withHost q a r f (logEvent _ (takeAnswer rest s))
  · have htmr : (withHost q a r f s).tmr = s.tmr := rfl
    show waitAction t (withHost q a r f s) = withHost q a r f (waitAction t s)
    unfold waitAction
    rw [htmr]
    split_ifs
    · exact advance_withHost q a r f (logEvent _ s)
    · rfl

theorem tickInputs_withHost : tickInputs (withHost q a r f s) = withHost q a r f (tickInputs s) := by
  unfold tickInputs withHost
  dsimp only
  split <;> rfl

end

/-- R81: while a list runs, no request is accepted. -/
theorem blockStep_running {s : State} (hrun : s.st = .init ∨ s.st = .exec) :
    blockStep s = .next (if s.rst = true then s else if s.rsp ≠ none then endPulse s else executorStep s) := by
  rcases hrun with hst | hst <;> unfold blockStep <;> rw [hst] <;> split_ifs <;> rfl

theorem blockStep_withHost {s : State} (hrun : s.st = .init ∨ s.st = .exec) (q : List ReqWord) (a : I2cAddr)
    (r : BitVec 8) (f : Bit) :
    ∃ t, blockStep s = .next t ∧ blockStep (withHost q a r f s) = .next (withHost q a r f t) := by
  refine ⟨_, blockStep_running hrun, ?_⟩
  rw [blockStep_running (s := withHost q a r f s) hrun, executorStep_withHost]
  congr 1
  show (if s.rst = true then _ else if s.rsp ≠ none then _ else _) = _
  split_ifs <;> rfl

/-- R46: a pin event that is no level of `rst` reads nothing of the host. -/
theorem applyInput_withHost {e : Input} {s t : State} (h : applyInput e s = .next t) (hassert : e ≠ .assertReset)
    (hrelease : e ≠ .releaseReset) (q : List ReqWord) (a : I2cAddr) (r : BitVec 8) (f : Bit) :
    ∃ u, applyInput e (withHost q a r f s) = .next u ∧ SameButHost t u := by
  cases e with
  | assertReset => exact absurd rfl hassert
  | releaseReset => exact absurd rfl hrelease
  | setConfig _ _ _ | request _ | answer _ =>
    cases h
    exact ⟨_, rfl, rfl⟩

/-- Settles O46: neither the executor nor a pin event other than a level of `rst` reads what the host presents. -/
theorem runningRequestIgnoresHostAndPins : Obligations.RunningRequestIgnoresHostAndPins := by
  intro s1 s2 t1 hsame hrun hreset hstep
  obtain ⟨q, a, r, f, rfl⟩ := sameButHost_iff.mp hsame
  rcases step_next hstep with ⟨e, rest, hinputs, happly⟩ | ⟨hdue, hblock⟩
  · rw [step_due (s := withHost q a r f s1) hinputs]
    refine applyInput_withHost happly ?_ ?_ q a r f
    · rintro rfl
      exact hreset (.inl ⟨rest, hinputs⟩)
    · rintro rfl
      exact hreset (.inr ⟨rest, hinputs⟩)
  · have hdue' : dueInput (withHost q a r f s1) = none := dueInput_eq_none.mpr (dueInput_eq_none (s := s1).mp hdue)
    obtain ⟨t, ht, hu⟩ := blockStep_withHost (s := tickInputs s1) (by simpa using hrun) q a r f
    rw [hblock] at ht
    cases ht
    rw [step_not_due hdue', tickInputs_withHost]
    exact ⟨_, hu, rfl⟩

end Sys2Proof.Machine

/-! PROOFS. The encoding of requests: decoder and encoder, the opcode table, the command classes, and what the
pseudo-instructions expand to (spec/30_encoding.md). -/

namespace Sys2Proof.Machine

/-! ## Decoding what was encoded -/

/-- Settles O13: one fact a constructor. -/
theorem decodeEncodeRoundTrip : Obligations.DecodeEncodeRoundTrip := by
  intro i
  cases i with
  | cmdClear => exact Laws.DecodeEncode.cmdClear
  | cmdHome x => exact Laws.DecodeEncode.cmdHome x
  | cmdEntryModeSet i s => exact Laws.DecodeEncode.cmdEntryModeSet i s
  | cmdDisplayControl d c b => exact Laws.DecodeEncode.cmdDisplayControl d c b
  | cmdCursorShift c r x => exact Laws.DecodeEncode.cmdCursorShift c r x
  | cmdFunctionSet n f x => exact Laws.DecodeEncode.cmdFunctionSet n f x
  | cmdSetCgramAddr a => exact Laws.DecodeEncode.cmdSetCgramAddr a
  | cmdSetDdramAddr a => exact Laws.DecodeEncode.cmdSetDdramAddr a
  | data d => exact Laws.DecodeEncode.data d
  | setbl b => exact Laws.DecodeEncode.setbl b
  | illegalCmdZero => exact Laws.DecodeEncode.illegalCmdZero
  | illegalFunctionSetDl1 x => exact Laws.DecodeEncode.illegalFunctionSetDl1 x
  | illegalSetbl p low => exact Laws.DecodeEncode.illegalSetbl p low
  | illegalOp x => exact Laws.DecodeEncode.illegalOp x

/-- A word that is the encoding of a well-formed instruction decodes to it. -/
theorem decode_of_eq_encode {w : ReqWord} {i : Instr} (h : w = encode i) (hwf : i.wf = true) : decode w = i :=
  h ▸ decodeEncodeRoundTrip i hwf

/-- Settles O17: each word is, bit for bit, the encoding of its instruction. -/
theorem writtenOutWordsDecode : Obligations.WrittenOutWordsDecode := by
  unfold Obligations.WrittenOutWordsDecode
  and_intros <;> exact decode_of_eq_encode rfl rfl

/-! ## The operation and the argument of a word (R49) -/

@[simp] theorem opOf_reqWord (op : BitVec 2) (arg : Byte) : opOf (reqWord op arg) = op :=
  BitVec.extractLsb'_append_eq_left

@[simp] theorem argOf_reqWord (op : BitVec 2) (arg : Byte) : argOf (reqWord op arg) = arg :=
  BitVec.extractLsb'_append_eq_right

@[simp] theorem opOf_and (w m : ReqWord) : opOf (w &&& m) = opOf w &&& opOf m := BitVec.extractLsb'_and

@[simp] theorem argOf_and (w m : ReqWord) : argOf (w &&& m) = argOf w &&& argOf m := BitVec.extractLsb'_and

theorem reqWord_opOf_argOf (w : ReqWord) : reqWord (opOf w) (argOf w) = w :=
  (BitVec.extractLsb'_append_extractLsb'_eq_extractLsb' rfl).trans BitVec.extractLsb'_eq_self

/-- Two words are one when they have the same operation and the same argument. -/
theorem reqWord_eq_iff {w v : ReqWord} : w = v ↔ opOf w = opOf v ∧ argOf w = argOf v := by
  constructor
  · rintro rfl
    exact ⟨rfl, rfl⟩
  · rintro ⟨hop, harg⟩
    rw [← reqWord_opOf_argOf w, hop, harg, reqWord_opOf_argOf]

theorem toNat_opOf (w : ReqWord) : (opOf w).toNat = w.toNat / 256 := by
  have hw := w.isLt
  simp only [opOf, BitVec.extractLsb'_toNat, Nat.shiftRight_eq_div_pow]
  omega

theorem toNat_argOf (w : ReqWord) : (argOf w).toNat = w.toNat % 256 := by
  simp [argOf]

/-! ## Encoding what was decoded -/

theorem decode_reqWord_cmd (v : Byte) : decode (reqWord 0b00 v) = decodeCmd v := by simp [decode]

theorem decode_reqWord_data (d : Byte) : decode (reqWord 0b01 d) = .data d := by simp [decode]

theorem decode_reqWord_setbl (arg : Byte) :
    decode (reqWord 0b10 arg) =
      if arg.extractLsb' 1 7 = 0 then .setbl (arg.extractLsb' 0 1)
      else .illegalSetbl (arg.extractLsb' 1 7) (arg.extractLsb' 0 1) := by
  simp [decode]

theorem decode_reqWord_reserved (x : Byte) : decode (reqWord 0b11 x) = .illegalOp x := by simp [decode]

/-- R50: a command byte's instruction encodes to the CMD word of the byte. -/
theorem encode_decodeCmd : ∀ v : Byte, (decodeCmd v).wf = true ∧ encode (decodeCmd v) = reqWord 0b00 v := by decide

/-- R55: an argument whose bits 7..1 are 0 is the `b` of its SETBL. -/
theorem encode_setbl : ∀ arg : Byte, arg.extractLsb' 1 7 = 0 →
    encode (.setbl (arg.extractLsb' 0 1)) = reqWord 0b10 arg := by
  decide

/-- R55: the fields of ILLEGAL SETBL are the whole argument. -/
theorem encode_illegalSetbl (arg : Byte) :
    encode (.illegalSetbl (arg.extractLsb' 1 7) (arg.extractLsb' 0 1)) = reqWord 0b10 arg := by
  have hfields : arg.extractLsb' 1 7 ++ arg.extractLsb' 0 1 = arg :=
    (BitVec.extractLsb'_append_extractLsb'_eq_extractLsb' rfl).trans BitVec.extractLsb'_eq_self
  exact congrArg (0b10#2 ++ ·) hfields

theorem encode_decode_reqWord (op : BitVec 2) (arg : Byte) :
    (decode (reqWord op arg)).wf = true ∧ encode (decode (reqWord op arg)) = reqWord op arg := by
  have hops : ∀ o : BitVec 2, o = 0b00 ∨ o = 0b01 ∨ o = 0b10 ∨ o = 0b11 := by decide
  rcases hops op with rfl | rfl | rfl | rfl
  · rw [decode_reqWord_cmd]
    exact encode_decodeCmd arg
  · rw [decode_reqWord_data]
    exact ⟨rfl, rfl⟩
  · rw [decode_reqWord_setbl]
    split_ifs with hhigh
    · exact ⟨rfl, encode_setbl arg hhigh⟩
    · exact ⟨bne_iff_ne.mpr hhigh, encode_illegalSetbl arg⟩
  · rw [decode_reqWord_reserved]
    exact ⟨rfl, rfl⟩

/-- Settles O14: by the operation of the word. -/
theorem encodeDecodeRoundTrip : Obligations.EncodeDecodeRoundTrip := by
  intro w
  rw [← reqWord_opOf_argOf w]
  exact encode_decode_reqWord (opOf w) (argOf w)

/-! ## The opcode table (R55) -/

/-- A row matches OP and ARG apart. -/
theorem matchesWord_reqWord (r : TableRow) (op : BitVec 2) (arg : Byte) :
    r.matchesWord (reqWord op arg) =
      (op &&& opOf r.mask == opOf r.value && arg &&& argOf r.mask == argOf r.value &&
        (!r.argHigh || arg.extractLsb' 1 7 != 0)) := by
  have hhigh : (reqWord op arg).extractLsb' 1 7 = arg.extractLsb' 1 7 :=
    BitVec.extractLsb'_append_eq_of_add_le (by decide)
  rw [Bool.eq_iff_iff]
  simp only [TableRow.matchesWord, Bool.and_eq_true, beq_iff_eq, reqWord_eq_iff, opOf_and, argOf_and, opOf_reqWord,
    argOf_reqWord, hhigh]

/-- The mnemonics of the rows that match a word. -/
def matchingRows (w : ReqWord) : List String := (opcodeTable.filter (·.matchesWord w)).map (·.mnemonic)

/-- R55: the row SETBL fixes bits 7..1 of the argument at 0. -/
theorem and_setbl_mask_eq_zero_iff : ∀ arg : Byte, arg &&& 0xFE#8 = 0#8 ↔ arg.extractLsb' 1 7 = 0 := by decide

/-- R55: the row of an instruction, and no other, matches its word. Where OP is not that of CMD it rules out all rows
but its own, and for SETBL also the other of the two. -/
theorem matchingRows_encode (i : Instr) (hwf : i.wf = true) : matchingRows (encode i) = [i.mnemonic] := by
  cases i with
  | cmdClear | illegalCmdZero => decide
  | cmdHome x | illegalFunctionSetDl1 x => revert x; decide
  | cmdEntryModeSet i s => revert i s; decide
  | cmdDisplayControl d c b => revert d c b; decide
  | cmdCursorShift c r x => revert c r x; decide
  | cmdFunctionSet n f x => revert n f x; decide
  | cmdSetCgramAddr a => revert a; decide
  | cmdSetDdramAddr a => revert a; decide
  | setbl b => revert b; decide
  | data d =>
    change matchingRows (reqWord 0b01 d) = _
    simp [matchingRows, opcodeTable, matchesWord_reqWord, opOf, argOf, Instr.mnemonic]
  | illegalSetbl p low =>
    have hp : p ≠ 0#7 := bne_iff_ne.mp hwf
    have hhigh : (p ++ low).extractLsb' 1 7 = p := BitVec.extractLsb'_append_eq_left
    have hrow : (p ++ low) &&& 0xFE#8 ≠ 0#8 := by
      rw [Ne, and_setbl_mask_eq_zero_iff, hhigh]
      exact hp
    change matchingRows (reqWord 0b10 (p ++ low)) = _
    simp [matchingRows, opcodeTable, matchesWord_reqWord, opOf, argOf, Instr.mnemonic, hrow, hhigh, hp]
  | illegalOp x =>
    change matchingRows (reqWord 0b11 x) = _
    simp [matchingRows, opcodeTable, matchesWord_reqWord, opOf, argOf, Instr.mnemonic]

/-! ## The counts of the words (R55) -/

/-- R56: the illegal words by their value: the command byte 0, the FUNCTION_SETs with DL = 1, and all words after the
two legal ones of SETBL. -/
theorem illegal_iff_toNat (w : ReqWord) :
    illegal w = true ↔ w.toNat = 0 ∨ (48 ≤ w.toNat ∧ w.toNat < 64) ∨ 514 ≤ w.toNat := by
  have hw := w.isLt
  simp only [illegal, Bool.or_eq_true, Bool.and_eq_true, beq_iff_eq, bne_iff_ne, ne_eq, ← BitVec.toNat_inj, toNat_opOf,
    toNat_argOf, BitVec.extractLsb'_toNat, Nat.shiftRight_eq_div_pow, BitVec.ofNat_eq_ofNat, BitVec.toNat_ofNat]
  omega

/-- The legal words of an operation, by their value. -/
theorem legal_op_iff_toNat (w : ReqWord) (op : BitVec 2) :
    (!illegal w && opOf w == op) = true ↔
      ((1 ≤ w.toNat ∧ w.toNat < 48) ∨ (64 ≤ w.toNat ∧ w.toNat < 514)) ∧ w.toNat / 256 = op.toNat := by
  rw [Bool.and_eq_true, Bool.not_eq_true', ← Bool.not_eq_true, illegal_iff_toNat, beq_iff_eq, ← BitVec.toNat_inj,
    toNat_opOf]
  omega

/-- All request words, in the order of their values. -/
def requestWords : List ReqWord := (List.range 1024).map (BitVec.ofNat 10)

/-- The words of a kind are counted by the set of their values. -/
theorem length_filter_requestWords {p : ReqWord → Bool} (values : Finset Nat) (hlt : ∀ k ∈ values, k < 1024)
    (hp : ∀ w : ReqWord, p w = true ↔ w.toNat ∈ values) : (requestWords.filter p).length = values.card := by
  have hvalues : values = ((List.range 1024).filter (p ∘ BitVec.ofNat 10)).toFinset := by
    ext k
    rw [List.mem_toFinset, List.mem_filter, List.mem_range, Function.comp_apply, hp, BitVec.toNat_ofNat]
    constructor
    · intro hk
      rw [Nat.mod_eq_of_lt (hlt k hk)]
      exact ⟨hlt k hk, hk⟩
    · rintro ⟨hk, hmem⟩
      rwa [Nat.mod_eq_of_lt hk] at hmem
  rw [hvalues, List.toFinset_card_of_nodup (List.nodup_range.filter _), requestWords, List.filter_map, List.length_map]

/-- A kind of words whose values are those from `a` up to `b`. -/
theorem length_filter_requestWords_Ico {p : ReqWord → Bool} (a b : Nat) (hb : b ≤ 1024)
    (hp : ∀ w : ReqWord, p w = true ↔ a ≤ w.toNat ∧ w.toNat < b) : (requestWords.filter p).length = b - a := by
  rw [length_filter_requestWords (Finset.Ico a b) (fun k hk => (Finset.mem_Ico.mp hk).2.trans_le hb)
    fun w => (hp w).trans Finset.mem_Ico.symm, Nat.card_Ico]

/-- R55: the legal CMD words are those of the bytes from 1 on, but for the FUNCTION_SETs with DL = 1. -/
theorem count_legal_cmd : (requestWords.filter fun w => !illegal w && opOf w == 0b00).length = 239 := by
  have hsub : Finset.Ico 48 64 ⊆ Finset.Ico 1 256 := Finset.Ico_subset_Ico (by decide) (by decide)
  rw [length_filter_requestWords (Finset.Ico 1 256 \ Finset.Ico 48 64), Finset.card_sdiff_of_subset hsub, Nat.card_Ico,
    Nat.card_Ico]
  · intro k
    rw [Finset.mem_sdiff, Finset.mem_Ico]
    omega
  · intro w
    simp only [legal_op_iff_toNat, BitVec.ofNat_eq_ofNat, BitVec.toNat_ofNat, Finset.mem_sdiff, Finset.mem_Ico]
    omega

theorem count_legal_data : (requestWords.filter fun w => !illegal w && opOf w == 0b01).length = 256 := by
  refine length_filter_requestWords_Ico 256 512 (by decide) fun w => ?_
  simp only [legal_op_iff_toNat, BitVec.ofNat_eq_ofNat, BitVec.toNat_ofNat]
  omega

theorem count_legal_setbl : (requestWords.filter fun w => !illegal w && opOf w == 0b10).length = 2 := by
  refine length_filter_requestWords_Ico 512 514 (by decide) fun w => ?_
  simp only [legal_op_iff_toNat, BitVec.ofNat_eq_ofNat, BitVec.toNat_ofNat]
  omega

theorem count_legal_reserved : (requestWords.filter fun w => !illegal w && opOf w == 0b11).length = 0 := by
  refine length_filter_requestWords_Ico 768 768 (by decide) fun w => ?_
  simp only [legal_op_iff_toNat, BitVec.ofNat_eq_ofNat, BitVec.toNat_ofNat]
  omega

/-- R55, R56: the illegal words are all but the legal ones, which lie between the values 1 and 513. -/
theorem count_illegal : (requestWords.filter illegal).length = 527 := by
  have hlegal : Finset.Ico 48 64 ⊆ Finset.Ico 1 514 := Finset.Ico_subset_Ico (by decide) (by decide)
  have hall : Finset.Ico 1 514 \ Finset.Ico 48 64 ⊆ Finset.Ico 0 1024 :=
    Finset.sdiff_subset.trans (Finset.Ico_subset_Ico (by decide) (by decide))
  rw [length_filter_requestWords (Finset.Ico 0 1024 \ (Finset.Ico 1 514 \ Finset.Ico 48 64)),
    Finset.card_sdiff_of_subset hall, Finset.card_sdiff_of_subset hlegal, Nat.card_Ico, Nat.card_Ico, Nat.card_Ico]
  · intro k
    rw [Finset.mem_sdiff, Finset.mem_Ico]
    omega
  · intro w
    have hw := w.isLt
    rw [illegal_iff_toNat, Finset.mem_sdiff, Finset.mem_sdiff, Finset.mem_Ico, Finset.mem_Ico, Finset.mem_Ico]
    omega

/-- Settles O15: a word is the encoding of its decoded instruction, whose row alone matches it. -/
theorem oneTableRowMatchesTheDecodedWord : Obligations.OneTableRowMatchesTheDecodedWord := by
  refine ⟨fun w => ?_, count_legal_cmd, count_legal_data, count_legal_setbl, count_legal_reserved, count_illegal⟩
  obtain ⟨hwf, henc⟩ := encodeDecodeRoundTrip w
  have hrow := matchingRows_encode (decode w) hwf
  rwa [henc] at hrow

/-! ## The classes of the command bytes (R50, R51) -/

/-- Where no bit above bit `k` is set, bit `k` says whether the value is at least `2 ^ k`. -/
theorem extractLsb'_one_eq_one_iff {v : Byte} {k : Nat} (h : v.toNat < 2 ^ (k + 1)) :
    v.extractLsb' k 1 = 1 ↔ 2 ^ k ≤ v.toNat := by
  have hdiv : v.toNat / 2 ^ k < 2 := Nat.div_lt_of_lt_mul (by rwa [← pow_succ])
  rw [← BitVec.toNat_inj, BitVec.extractLsb'_toNat, Nat.shiftRight_eq_div_pow, pow_one, Nat.mod_eq_of_lt hdiv]
  rw [← one_mul (2 ^ k), ← Nat.le_div_iff_mul_le (Nat.two_pow_pos k), one_mul]
  change _ = 1 ↔ _
  omega

/-- R51: the values of the bytes of a class, from the first up to the second, which is not of it. -/
def classRange : CmdClass → Nat × Nat
  | .none => (0, 1)
  | .clear => (1, 2)
  | .home => (2, 4)
  | .entryModeSet => (4, 8)
  | .displayControl => (8, 16)
  | .cursorShift => (16, 32)
  | .functionSet => (32, 64)
  | .setCgramAddr => (64, 128)
  | .setDdramAddr => (128, 256)

/-- The value of the byte lies in the range of the class. -/
def InClassRange (v : Byte) (c : CmdClass) : Prop := (classRange c).1 ≤ v.toNat ∧ v.toNat < (classRange c).2

/-- One test of `cls`: with no bit above bit `k` set, either bit `k` is set and the byte is of the class of that bit, or
no bit from `k` on is set and the next test decides. -/
theorem inClassRange_ite {v : Byte} {k : Nat} {c d : CmdClass} (hlt : v.toNat < 2 ^ (k + 1))
    (hc : classRange c = (2 ^ k, 2 ^ (k + 1))) (hd : v.toNat < 2 ^ k → InClassRange v d) :
    InClassRange v (if v.extractLsb' k 1 = 1 then c else d) := by
  have hbit := extractLsb'_one_eq_one_iff hlt
  split_ifs with hset
  · rw [InClassRange, hc]
    exact ⟨hbit.mp hset, hlt⟩
  · exact hd (Nat.lt_of_not_le (mt hbit.mpr hset))

/-- R51: the byte lies in the range of its class. -/
theorem inClassRange_cls (v : Byte) : InClassRange v (cls v) :=
  inClassRange_ite v.isLt rfl fun h7 => inClassRange_ite h7 rfl fun h6 => inClassRange_ite h6 rfl fun h5 =>
    inClassRange_ite h5 rfl fun h4 => inClassRange_ite h4 rfl fun h3 => inClassRange_ite h3 rfl fun h2 =>
      inClassRange_ite h2 rfl fun h1 => inClassRange_ite h1 rfl fun h0 => ⟨Nat.zero_le _, h0⟩

/-- Settles O16: the byte lies in the range of its class, and the ranges are disjoint. -/
theorem classIsTheMostSignificantOne : Obligations.ClassIsTheMostSignificantOne := by
  intro v
  obtain ⟨hlow, hhigh⟩ := inClassRange_cls v
  cases hcls : cls v <;> simp only [hcls, classRange] at hlow hhigh <;>
    simp only [reduceCtorEq, false_iff, true_iff] <;> omega

/-! ## The pseudo-instructions (R60 to R71) -/

theorem decode_clearWord : decode (cmdWord 0x01) = .cmdClear := decode_of_eq_encode rfl rfl

theorem decode_homeWord : decode (cmdWord 0x02) = .cmdHome 0 := decode_of_eq_encode rfl rfl

theorem decode_setblWord (b : Bit) : decode (setblWord b) = .setbl b := by
  have hword : ∀ b : Bit, setblWord b = encode (.setbl b) := by decide
  exact decode_of_eq_encode (hword b) rfl

theorem map_decode_dataWord (codes : List Byte) : (codes.map dataWord).map decode = codes.map .data := by
  rw [List.map_map]
  exact List.map_congr_left fun d _ => decode_reqWord_data d

theorem expandDispctl_eq_encode : ∀ d c b : Bit, expandDispctl d c b = encode (.cmdDisplayControl d c b) := by decide

theorem expandEntry_eq_encode : ∀ i s : Bit, expandEntry i s = encode (.cmdEntryModeSet i s) := by decide

theorem expandShift_eq_encode : ∀ c r : Bit, expandShift c r = encode (.cmdCursorShift c r 0) := by decide

/-- Settles O54: each expansion is the encoding of its instruction. -/
theorem flagPseudoInstructionsExpand : Obligations.FlagPseudoInstructionsExpand := fun a b c =>
  ⟨decode_of_eq_encode (expandDispctl_eq_encode a b c) rfl, decode_of_eq_encode (expandEntry_eq_encode a b) rfl,
    decode_of_eq_encode (expandShift_eq_encode a b) rfl⟩

/-- R65: of the address only the low byte is read, and of that all but bit 7. -/
theorem decode_expandSetDdram (a : Nat) : decode (expandSetDdram a) = .cmdSetDdramAddr (BitVec.ofNat 7 a) := by
  have hbyte : ∀ v : Byte, cmdWord ((0x80#8 ||| v) &&& 0xFF#8) = encode (.cmdSetDdramAddr (v.setWidth 7)) := by decide
  have hword := hbyte (BitVec.ofNat 8 a)
  rw [BitVec.setWidth_ofNat_of_le (by decide), ← BitVec.ofNat_or, ← BitVec.ofNat_and] at hword
  exact decode_of_eq_encode hword rfl

/-- R67: of the index only the low three bits are read. -/
theorem decode_expandSetCgram (idx : Nat) :
    decode (expandSetCgram idx) = .cmdSetCgramAddr (BitVec.ofNat 6 (8 * (idx % 8))) := by
  have hglyph : ∀ k < 8, cmdWord (BitVec.ofNat 8 (0x40 ||| (k <<< 3))) =
      encode (.cmdSetCgramAddr (BitVec.ofNat 6 (8 * k))) := by
    decide
  have hlow : idx &&& 0x7 = idx % 8 := Nat.and_two_pow_sub_one_eq_mod idx 3
  rw [expandSetCgram, hlow]
  exact decode_of_eq_encode (hglyph _ (Nat.mod_lt idx (by decide))) rfl

/-- Settles O56: both expansions are encodings, for every natural number. -/
theorem addressPseudoInstructionsExpand : Obligations.AddressPseudoInstructionsExpand := fun a =>
  ⟨decode_expandSetDdram a, decode_expandSetCgram a⟩

/-- R66: the table of row bases, entry by entry. -/
theorem rowOffset_eq_getElem? (cols : Nat) {r : Nat} (h : r ≤ 3) :
    rowOffset cols r = ([0x00, 0x40, 0x00 + cols, 0x40 + cols][r]?).getD 0 := by
  match r, h with
  | 0, _ | 1, _ | 2, _ | 3, _ => rfl

/-- R66: the clamped row is the least of the row, the last row and 3. -/
theorem clampRow_is_least (rows row : Nat) :
    clampRow rows row ≤ row ∧ clampRow rows row ≤ rows - 1 ∧ clampRow rows row ≤ 3 ∧
      (clampRow rows row = row ∨ clampRow rows row = rows - 1 ∨ clampRow rows row = 3) := by
  unfold clampRow
  omega

/-- Settles O57: `r` is the clamped row. -/
theorem setCursorClampsTheRow : Obligations.SetCursorClampsTheRow := by
  intro cols rows col row _
  obtain ⟨hrow, hlast, hthree, hleast⟩ := clampRow_is_least rows row
  refine ⟨clampRow rows row, hrow, hlast, hthree, hleast, ?_⟩
  rw [expandSetCursor, decode_expandSetDdram, rowOffset_eq_getElem? cols hthree]

/-- Settles O55: each word of an expansion decodes to its instruction, in order. -/
theorem requestPseudoInstructionsExpand : Obligations.RequestPseudoInstructionsExpand := fun _ _ =>
  ⟨congrArg ([·]) decode_clearWord, congrArg ([·]) decode_homeWord, congrArg ([·]) (decode_setblWord 1),
    congrArg ([·]) (decode_setblWord 0), map_decode_dataWord,
    fun idx _ _ _ _ _ _ _ _ => congrArg₂ List.cons (decode_expandSetCgram idx) (map_decode_dataWord _)⟩

/-! ## The illegal instructions in READY (R56, R87, R88) -/

/-- R83: in READY a response changes `LAST_RESP` and `REQ` only, beside the pulse and its event. -/
theorem respond_of_ready {s : State} (hst : s.st = .ready) (c : RespCode) :
    respond c s =
      { s with
        lastResp := c, rsp := some c, events := s.events ++ [.resp c],
        req := (respond c s).req, freeCount := (respond c s).freeCount } := by
  simp [respond, hst]

/-- Settles O9: the effect of each of the four is the response ERR_ILLEGAL. -/
theorem illegalInstructionsAnswerErrIllegal : Obligations.IllegalInstructionsAnswerErrIllegal := by
  intro s i hst hillegal
  have heffect : requestEffect i = respond .errIllegal := by
    rcases hillegal with rfl | ⟨x, rfl⟩ | ⟨p, low, rfl⟩ | ⟨x, rfl⟩ <;> rfl
  refine ⟨respond .errIllegal s, ?_, respond_of_ready hst .errIllegal⟩
  rw [exec_eq_dispatch, dispatch_ready _ hst, heffect]

end Sys2Proof.Machine

/-! PROOFS. The packer's counts and the conformance relation (spec/40_codec.md R79, R80). -/

namespace Sys2Proof.Machine

open Sys2Proof.Config

/-! ## Counts of the nibble transfer and of the send (R80) -/

theorem writeCount_append (l m : List Action) : writeCount (l ++ m) = writeCount l + writeCount m := by
  simp [writeCount]

theorem waitCount_append (l m : List Action) : waitCount (l ++ m) = waitCount l + waitCount m := by
  simp [waitCount]

theorem waitTotal_append (l m : List Action) : waitTotal (l ++ m) = waitTotal l + waitTotal m := by
  simp [waitTotal]

/-- Settles O19: the bytes of a transfer do not enter its counts, and a send is two transfers. -/
theorem nibbleAndSendCounts : Obligations.NibbleAndSendCounts := by
  intro pm bl v m
  have hnibble (n : Byte) : writeCount (writeNibble pm bl n) = 3 ∧ waitCount (writeNibble pm bl n) = 2 ∧
      (writeNibble pm bl n).length = 5 ∧ waitTotal (writeNibble pm bl n) = 51 := by
    rw [writeNibble_eq]
    exact ⟨rfl, rfl, rfl, rfl⟩
  refine ⟨hnibble v, ?_⟩
  obtain ⟨hw, ht, -, hu⟩ := hnibble (hi v m)
  obtain ⟨hw', ht', -, hu'⟩ := hnibble (lo v m)
  refine ⟨?_, ?_, length_send pm bl v m, ?_⟩
  · rw [send, writeCount_append, hw, hw']
  · rw [send, waitCount_append, ht, ht']
  · rw [send, waitTotal_append, hu, hu']

/-! ## Conformance (R79) -/

/-- The same write or response, after at least as much waiting. -/
def GapLe (p q : Nat × Event) : Prop := p.1 ≤ q.1 ∧ p.2 = q.2

/-- The same writes and responses in the same order, each after at least as much waiting, and at least as much waiting at
the end. -/
def GapsLe (x y : List (Nat × Event) × Nat) : Prop :=
  List.Forall₂ GapLe x.1 y.1 ∧ x.2 ≤ y.2

theorem forall₂_gap_trans {l m n : List (Nat × Event)} (hlm : List.Forall₂ GapLe l m)
    (hmn : List.Forall₂ GapLe m n) :
    List.Forall₂ GapLe l n := by
  induction hlm generalizing n with
  | nil => exact hmn
  | cons hpq _ ih =>
    cases hmn with
    | cons hqr hrest => exact .cons ⟨hpq.1.trans hqr.1, hpq.2.trans hqr.2⟩ (ih hrest)

theorem GapsLe.trans {x y z : List (Nat × Event) × Nat} (hxy : GapsLe x y) (hyz : GapsLe y z) : GapsLe x z :=
  ⟨forall₂_gap_trans hxy.1 hyz.1, hxy.2.trans hyz.2⟩

/-- `b` waits at least as long as `a`, from wherever they follow on, if no less has been waited before `b`. -/
def NoSooner (a b : List Event) : Prop := ∀ v w : Nat, v ≤ w → GapsLe (gaps v a) (gaps w b)

theorem NoSooner.append_left {a b : List Event} (before : List Event) (h : NoSooner a b) :
    NoSooner (before ++ a) (before ++ b) := by
  induction before with
  | nil => exact h
  | cons e before ih =>
    intro v w hvw
    cases e with
    | wait t => exact ih (v + t) (w + t) (Nat.add_le_add_right hvw t)
    | write | resp | abandoned =>
      obtain ⟨hgaps, hend⟩ := ih 0 0 le_rfl
      exact ⟨.cons ⟨hvw, rfl⟩ hgaps, hend⟩

theorem NoSooner.refl (a : List Event) : NoSooner a a := by
  have hnil : NoSooner [] [] := fun _ _ hvw => ⟨.nil, hvw⟩
  simpa using hnil.append_left a

theorem noSooner_of_relax {a b : List Event} (h : Relax a b) : NoSooner a b := by
  cases h with
  | lengthen before after t u htu =>
    exact .append_left before fun v w hvw => NoSooner.refl after (v + t) (w + u) (Nat.add_le_add hvw htu)
  | merge before after i j k hijk =>
    refine .append_left before fun v w hvw => NoSooner.refl after (v + i + j) (w + k) ?_
    omega

/-- Settles O27: a lengthened or merged wait is met no sooner, whatever stands before and after it, and so step by step. -/
theorem conformanceOnlyLengthensTheGaps : Obligations.ConformanceOnlyLengthensTheGaps := by
  intro a b hconf
  show GapsLe (gaps 0 a) (gaps 0 b)
  induction hconf with
  | refl => exact NoSooner.refl a 0 0 le_rfl
  | tail _ hrelax ih => exact ih.trans (noSooner_of_relax hrelax 0 0 le_rfl)

end Sys2Proof.Machine

/-! PROOFS. The executor (spec/40_codec.md R78): what an action of a list comes to, and that the steps of the machine come to
the list run, in INIT and in EXEC (`endsAs_runList`), and from a request's acceptance to its response. -/

namespace Sys2Proof.Machine

open Sys2Proof.Config

/-! ## Runs of a quiet state -/

/-- A run of at least one step that goes on begins with a step that goes on. -/
theorem step_of_run_succ {m : Nat} {s t : State} (h : Host.Core.run Sys2Proof.core (m + 1) s = .next t) :
    ∃ u, step s = .next u ∧ Host.Core.run Sys2Proof.core m u = .next t := by
  cases hstep : step s with
  | next u => exact ⟨u, rfl, run_succ m hstep ▸ h⟩
  | fault r | refused r =>
    have hcore := show Sys2Proof.core.step s = _ from hstep
    simp [Host.Core.run, hcore] at h

/-- The host's run of the machine, cut in two. -/
theorem run_add {m : Nat} (n : Nat) {s t : State} (h : Host.Core.run Sys2Proof.core m s = .next t) :
    Host.Core.run Sys2Proof.core (m + n) s = Host.Core.run Sys2Proof.core n t := by
  induction m generalizing s with
  | zero =>
    cases h
    rw [Nat.zero_add]
  | succ m ih =>
    obtain ⟨u, hstep, hrest⟩ := step_of_run_succ h
    rw [Nat.succ_add, run_succ _ hstep, ih hrest]

theorem run_one {s t : State} (h : step s = .next t) : Host.Core.run Sys2Proof.core 1 s = .next t :=
  run_succ 0 h

/-- A step of a quiet state that runs a list is one of the executor. -/
theorem step_running {s : State} (hq : s.Quiet) (hrun : s.st = .init ∨ s.st = .exec) :
    step s = .next (executorStep s) := by
  obtain ⟨hrst, hrsp, hin⟩ := hq
  rw [step_no_inputs hin, blockStep_running hrun]
  simp [hrst, hrsp]

/-- R81: a quiet READY state accepts the word on the request port. -/
theorem step_accepts {s : State} {w : ReqWord} {queue : List ReqWord} (hq : s.Quiet) (hst : s.st = .ready)
    (hqueue : s.hostQueue = w :: queue) : step s = .next (requestEffect (decode w) (accept w queue s)) := by
  obtain ⟨hrst, hrsp, hin⟩ := hq
  rw [step_no_inputs hin]
  simp [blockStep, requestStep, hrst, hrsp, hst, hqueue, exec_eq_dispatch, dispatch_ready _ (s := accept w queue s) hst]

/-! ## One action of the list -/

/-- The state with another count in the timer. -/
def withTimer (count : BitVec 16) (s : State) : State := { s with tmr := count }

theorem executorStep_write_held {s : State} {b : Byte} (hact : s.act[s.aix]? = some (.write b)) (has : s.answers = []) :
    executorStep s = s := by
  simp [executorStep, hact, writeAction, has]

theorem executorStep_write_ok {s : State} {b : Byte} {rest : List BusAnswer} (hact : s.act[s.aix]? = some (.write b))
    (has : s.answers = .ok :: rest) :
    executorStep s = advance (logEvent (.write s.cfgAddr b .ok) (takeAnswer rest s)) := by
  simp [executorStep, hact, writeAction, has]

theorem executorStep_write_err {s : State} {b : Byte} {rest : List BusAnswer} (hact : s.act[s.aix]? = some (.write b))
    (has : s.answers = .err :: rest) :
    executorStep s = abortList (logEvent (.write s.cfgAddr b .err) (takeAnswer rest s)) := by
  simp [executorStep, hact, writeAction, has]

theorem executorStep_wait_counts {s : State} {t : Nat} (hact : s.act[s.aix]? = some (.wait t)) (htmr : s.tmr ≠ 0) :
    executorStep s = countDown s := by
  rw [executorStep, hact]
  exact if_neg htmr

theorem executorStep_wait_over {s : State} {t : Nat} (hact : s.act[s.aix]? = some (.wait t)) (htmr : s.tmr = 0) :
    executorStep s = advance (logEvent (.wait t) s) := by
  simp [executorStep, hact, waitAction, htmr]

/-- R26: a wait in progress counts down, a step for each count. -/
theorem run_wait {s : State} {t : Nat} (hq : s.Quiet) (hrun : s.st = .init ∨ s.st = .exec)
    (hact : s.act[s.aix]? = some (.wait t)) :
    Host.Core.run Sys2Proof.core s.tmr.toNat s = .next (withTimer 0 s) := by
  induction hn : s.tmr.toNat generalizing s with
  | zero =>
    have htmr : s.tmr = 0 := BitVec.eq_of_toNat_eq hn
    simp [Host.Core.run, withTimer, ← htmr]
  | succ n ih =>
    have htmr : s.tmr ≠ 0 := fun h => by simp [h] at hn
    have hstep := step_running hq hrun
    rw [executorStep_wait_counts hact htmr] at hstep
    have hcount : (countDown s).tmr.toNat = n := by
      rw [countDown_tmr]
      bv_omega
    rw [run_succ n hstep, ih (s := countDown s) hq hrun hact hcount]
    rfl

/-! ## An action of the list completes -/

section

variable {s : State} (e : Event)

/-- R78: before the list's end, completing an action leaves all but the timer and the shadow of an init step that is
reached. -/
theorem advance_logEvent_within (h : s.aix + 1 < s.act.length) :
    advance (logEvent e s) =
      { s with
        aix := s.aix + 1, tmr := (advance (logEvent e s)).tmr, func := (advance (logEvent e s)).func
        dctl := (advance (logEvent e s)).dctl, emode := (advance (logEvent e s)).emode
        events := s.events ++ [e] } := by
  refine (advance_frame (logEvent e s)).trans ?_
  simp [advance_within (s := logEvent e s) h]

/-- R83: completing the last action of a request's list delivers the response OK. -/
theorem advance_logEvent_end_exec (hst : s.st = .exec) (h : s.act.length ≤ s.aix + 1) :
    advance (logEvent e s) =
      { s with
        st := .ready, aix := s.aix + 1, lastResp := .ok, rsp := some .ok, events := s.events ++ [e, .resp .ok]
        req := (advance (logEvent e s)).req, freeCount := (advance (logEvent e s)).freeCount } := by
  rw [advance_end (s := logEvent e s) h]
  simp [finishList, respond, nextIndex, logEvent, hst]

/-- R111: completing the last action of the initialization list delivers no response. -/
theorem advance_logEvent_end_init (hst : s.st = .init) (h : s.act.length ≤ s.aix + 1) :
    advance (logEvent e s) = { s with st := .ready, aix := s.aix + 1, events := s.events ++ [e] } := by
  rw [advance_end (s := logEvent e s) h]
  simp [finishList, nextIndex, logEvent, hst]

end

/-- Settles O29: the step is the executor's, which holds, or logs the write and advances. -/
theorem writeCompletesWithItsAnswer : Obligations.WriteCompletesWithItsAnswer := by
  intro s b hq hact
  refine ⟨fun hrun has => ?_, fun rest has => ?_⟩
  · rw [step_running hq hrun, executorStep_write_held hact has]
  have hstep (hrun : s.st = .init ∨ s.st = .exec) :
      step s = .next (advance (logEvent (.write s.cfgAddr b .ok) (takeAnswer rest s))) := by
    rw [step_running hq hrun, executorStep_write_ok hact has]
  refine ⟨fun hrun hlt => ⟨_, hstep hrun, ?_⟩, fun hst hle => ⟨_, hstep (.inr hst), ?_⟩, fun hst hle => ?_⟩
  · exact advance_logEvent_within _ hlt
  · exact advance_logEvent_end_exec _ hst hle
  · exact (hstep (.inl hst)).trans (congrArg Host.Outcome.next (advance_logEvent_end_init _ hst hle))

/-- Settles O28: the counts of the timer, then the step that logs the wait and advances. -/
theorem everyWaitEndsWithOneEvent : Obligations.EveryWaitEndsWithOneEvent := by
  intro s t hq hact
  have hends (hrun : s.st = .init ∨ s.st = .exec) :
      Host.Core.run Sys2Proof.core (s.tmr.toNat + 1) s = .next (advance (logEvent (.wait t) (withTimer 0 s))) := by
    rw [run_add 1 (run_wait hq hrun hact), run_one (step_running (s := withTimer 0 s) hq hrun),
      executorStep_wait_over (s := withTimer 0 s) hact rfl]
  refine ⟨fun hrun hlt => ⟨_, hends hrun, ?_⟩, fun hst hle => ⟨_, hends (.inr hst), ?_⟩, fun hst hle => ?_⟩
  · exact advance_logEvent_within (s := withTimer 0 s) _ hlt
  · exact advance_logEvent_end_exec (s := withTimer 0 s) _ hst hle
  · exact (hends (.inl hst)).trans (congrArg Host.Outcome.next (advance_logEvent_end_init (s := withTimer 0 s) _ hst hle))

/-! ## A whole list (R78) -/

/-- What a running list has changed before its end: `AIX`, the timer, the answers left and the observation, and in INIT the
shadows. -/
def RunsOn (s u : State) : Prop :=
  u = { s with
    aix := u.aix, tmr := u.tmr, answers := u.answers, events := u.events
    func := if s.st = .init then u.func else s.func
    dctl := if s.st = .init then u.dctl else s.dctl
    emode := if s.st = .init then u.emode else s.emode }

theorem RunsOn.st {s u : State} (h : RunsOn s u) : u.st = s.st := by rw [h]

theorem RunsOn.cfgAddr {s u : State} (h : RunsOn s u) : u.cfgAddr = s.cfgAddr := by rw [h]

theorem RunsOn.act {s u : State} (h : RunsOn s u) : u.act = s.act := by rw [h]

theorem RunsOn.quiet {s u : State} (h : RunsOn s u) (hq : s.Quiet) : u.Quiet := by
  rw [h]
  exact hq

theorem RunsOn.refl (s : State) : RunsOn s s := by simp [RunsOn]

theorem RunsOn.trans {s u v : State} (hsu : RunsOn s u) (huv : RunsOn u v) : RunsOn s v := by
  unfold RunsOn at *
  rw [huv, hsu]
  split_ifs <;> rfl

theorem runsOn_withTimer (count : BitVec 16) (s : State) : RunsOn s (withTimer count s) := by simp [RunsOn, withTimer]

theorem runsOn_takeAnswer (rest : List BusAnswer) (s : State) : RunsOn s (takeAnswer rest s) := by
  simp [RunsOn, takeAnswer]

/-- R78: an action that completes before the list's end lets it run on. -/
theorem runsOn_advance {s : State} (e : Event) (h : s.aix + 1 < s.act.length) : RunsOn s (advance (logEvent e s)) := by
  obtain ⟨hfunc, hdctl, hemode⟩ := advance_shadows (logEvent e s)
  have hframe := advance_logEvent_within e h
  by_cases hst : s.st = .init
  · rw [RunsOn, hframe]
    simp [hst]
  · simp only [logEvent_st, hst, false_and, if_false, logEvent_func, logEvent_dctl, logEvent_emode]
      at hfunc hdctl hemode
    rw [hfunc, hdctl, hemode] at hframe
    rw [RunsOn, hframe]
    simp [hst]

/-- An action completes with the event and leaves the answers. -/
inductive Completes (addr : I2cAddr) : Action → List BusAnswer → Event → List BusAnswer → Prop where
  | wait (t : Nat) (answers : List BusAnswer) : Completes addr (.wait t) answers (.wait t) answers
  | write (b : Byte) (rest : List BusAnswer) : Completes addr (.write b) (.ok :: rest) (.write addr b .ok) rest

/-- R78: a list run ends at its first action, a failed write, or completes it and goes on with the others. -/
theorem runList_cons_some {addr : I2cAddr} {a : Action} {l : List Action} {answers : List BusAnswer} {r : ListRun}
    (h : runList addr (a :: l) answers = some r) :
    (∃ b rest, a = .write b ∧ answers = .err :: rest ∧ r = ⟨[.write addr b .err], false, 0, rest⟩) ∨
    ∃ e rest r', Completes addr a answers e rest ∧ runList addr l rest = some r' ∧ r = r'.after e := by
  cases a with
  | wait t =>
    obtain ⟨r', hr', rfl⟩ := Option.map_eq_some_iff.mp h
    exact .inr ⟨_, _, r', .wait t answers, hr', rfl⟩
  | write b =>
    rcases answers with _ | ⟨_ | _, rest⟩
    · cases h
    · obtain ⟨r', hr', rfl⟩ := Option.map_eq_some_iff.mp h
      exact .inr ⟨_, _, r', .write b rest, hr', rfl⟩
    · cases h
      exact .inl ⟨b, rest, rfl, rfl, rfl⟩

/-- R78: the machine comes to the step in which the action completes, with nothing but the timer changed. -/
theorem run_to_completion {s : State} {a : Action} {e : Event} {rest : List BusAnswer} (hq : s.Quiet)
    (hrun : s.st = .init ∨ s.st = .exec) (hact : s.act[s.aix]? = some a)
    (hcompletes : Completes s.cfgAddr a s.answers e rest) :
    ∃ n count, Host.Core.run Sys2Proof.core n s = .next (withTimer count s) ∧
      executorStep (withTimer count s) = advance (logEvent e (takeAnswer rest (withTimer count s))) := by
  generalize has : s.answers = answers at hcompletes
  cases hcompletes with
  | wait t =>
    subst has
    exact ⟨_, 0, run_wait hq hrun hact, executorStep_wait_over (s := withTimer 0 s) hact rfl⟩
  | write b rest => exact ⟨0, s.tmr, rfl, executorStep_write_ok hact has⟩

/-- R83, R117: the list ends, with every action performed or at a failed write. -/
def endList : Bool → State → State
  | true => finishList
  | false => abortList

/-- The machine runs on from `s` to the step in which the list ends, and it ends as the list run `r` does. -/
def EndsAs (s : State) (r : ListRun) : Prop :=
  ∃ n, ∃ u : State, Host.Core.run Sys2Proof.core n s = .next u ∧ RunsOn s u ∧
    executorStep u =
      endList r.finished { u with aix := s.aix + r.index, answers := r.left, events := s.events ++ r.events }

/-- A run that completes the action at `AIX` with the event and ends as the list run of the other actions ends as that
of all of them. -/
theorem EndsAs.after {n : Nat} {s w v : State} {e : Event} {r : ListRun}
    (hn : Host.Core.run Sys2Proof.core n s = .next w) (hstep : step w = .next v) (hon : RunsOn s v)
    (haix : v.aix = s.aix + 1) (hevents : v.events = s.events ++ [e]) (h : EndsAs v r) : EndsAs s (r.after e) := by
  obtain ⟨m, u, hm, honu, hend⟩ := h
  refine ⟨n + (m + 1), u, ?_, hon.trans honu, ?_⟩
  · rw [run_add _ hn, run_succ m hstep, hm]
  · have hindex : v.aix + r.index = s.aix + (r.after e).index := by
      rw [haix, Nat.add_assoc, Nat.add_comm 1]
      rfl
    rw [hend, hindex, hevents, List.append_assoc]
    rfl

/-- What is left of a list from an action on is that action and what is left after it. -/
theorem drop_eq_cons {α : Type} {m l : List α} {i : Nat} {a : α} (h : m.drop i = a :: l) :
    m[i]? = some a ∧ m.drop (i + 1) = l := by
  constructor
  · simpa [h] using (List.getElem?_drop (xs := m) (i := i) (j := 0)).symm
  · rw [← List.drop_drop, h]
    rfl

/-- R78: from any action of a list on, in EXEC or INIT, the machine does what the list run of the actions left does. -/
theorem endsAs_runList {s : State} {r : ListRun} {l : List Action} (hq : s.Quiet) (hrun : s.st = .init ∨ s.st = .exec)
    (hindex : s.aix < s.act.length) (hdrop : s.act.drop s.aix = l) (hr : runList s.cfgAddr l s.answers = some r) :
    EndsAs s r := by
  induction l generalizing s r with
  | nil => exact absurd (List.drop_eq_nil_iff.mp hdrop) (Nat.not_le.mpr hindex)
  | cons a l ih =>
    obtain ⟨hact, hdrop'⟩ := drop_eq_cons hdrop
    rcases runList_cons_some hr with ⟨b, rest, rfl, has, rfl⟩ | ⟨e, rest, r', hcompletes, hr', rfl⟩
    · exact ⟨0, s, rfl, .refl s, executorStep_write_err hact has⟩
    obtain ⟨n, count, hn, hstep⟩ := run_to_completion hq hrun hact hcompletes
    by_cases hlast : s.act.length ≤ s.aix + 1
    · rw [← hdrop', List.drop_eq_nil_of_le hlast] at hr'
      cases hr'
      exact ⟨n, _, hn, runsOn_withTimer count s, hstep.trans (advance_end hlast)⟩
    · have hnext := step_running (s := withTimer count s) hq hrun
      rw [hstep] at hnext
      have hon : RunsOn s (advance (logEvent e (takeAnswer rest (withTimer count s)))) :=
        ((runsOn_withTimer count s).trans (runsOn_takeAnswer rest _)).trans (runsOn_advance e (Nat.not_le.mp hlast))
      refine .after hn hnext hon (advance_aix _) ?_ (ih (hon.quiet hq) (hon.st ▸ hrun) ?_ ?_ ?_)
      · rw [advance_logEvent_within e (s := takeAnswer rest (withTimer count s)) (Nat.not_le.mp hlast)]
        rfl
      · simpa [withTimer] using hlast
      · simpa [withTimer] using hdrop'
      · simpa [withTimer] using hr'

/-! ## A request from its acceptance to its response -/

theorem endList_exec {s : State} (finished : Bool) (hst : s.st = .exec) :
    endList finished s = respond (if finished then .ok else .errTransport) s := by
  cases finished <;> simp [endList, finishList, abortList, hst]

/-- R83, R117: the list that has just started in EXEC comes to its list run and the one response. -/
theorem run_list_exec {s : State} {r : ListRun} (hq : s.Quiet) (hst : s.st = .exec) (haix : s.aix = 0)
    (hact : s.act ≠ []) (hr : runList s.cfgAddr s.act s.answers = some r) :
    let resp : RespCode := if r.finished then .ok else .errTransport
    ∃ n, ∃ t : State, Host.Core.run Sys2Proof.core n s = .next t ∧
      t = { s with
        st := .ready, aix := r.index, tmr := t.tmr, answers := r.left, lastResp := resp, rsp := some resp
        events := s.events ++ r.events ++ [.resp resp], req := t.req, freeCount := t.freeCount } := by
  intro resp
  obtain ⟨n, u, hn, hon, hend⟩ := endsAs_runList hq (.inr hst)
    (by rw [haix]; exact List.length_pos_iff.mpr hact) (by rw [haix]; rfl) hr
  have hust : u.st = .exec := hon.st.trans hst
  have hlast := step_running (hon.quiet hq) (.inr hust)
  simp only [hend, endList_exec, hust] at hlast
  refine ⟨n + 1, _, (run_add 1 hn).trans (run_one hlast), ?_⟩
  rw [RunsOn] at hon
  rw [hon]
  simp [respond, hst, haix, resp]

/-- R84: the shadow of the word's class written, where the word is a command. -/
def requestShadow (w : ReqWord) (s : State) : State := if opOf w = 0b00 then shadowWrite (argOf w) s else s

theorem requestShadow_frame (w : ReqWord) (s : State) :
    requestShadow w s =
      { s with
        func := (requestShadow w s).func, dctl := (requestShadow w s).dctl, emode := (requestShadow w s).emode } := by
  unfold requestShadow
  split
  · rw [shadowWrite_frame]
  · rfl

@[simp] theorem requestShadow_cfgAddr (w : ReqWord) (s : State) : (requestShadow w s).cfgAddr = s.cfgAddr := by
  rw [requestShadow_frame]

@[simp] theorem requestShadow_st (w : ReqWord) (s : State) : (requestShadow w s).st = s.st := by
  rw [requestShadow_frame]

@[simp] theorem requestShadow_answers (w : ReqWord) (s : State) : (requestShadow w s).answers = s.answers := by
  rw [requestShadow_frame]

@[simp] theorem requestShadow_events (w : ReqWord) (s : State) : (requestShadow w s).events = s.events := by
  rw [requestShadow_frame]

theorem requestShadow_quiet {w : ReqWord} {s : State} : (requestShadow w s).Quiet ↔ s.Quiet := by
  rw [requestShadow_frame]
  rfl

theorem startList_quiet {l : List Action} {s : State} : (startList l s).Quiet ↔ s.Quiet := by
  rw [startList_frame]
  rfl

theorem requestShadow_accept (w : ReqWord) (queue : List ReqWord) (s : State) :
    requestShadow w (accept w queue s) = accept w queue (requestShadow w s) := by
  unfold requestShadow
  split
  · rw [shadowWrite_frame, shadowWrite_frame]
    rfl
  · rfl

/-- R82: a word with a list starts it, with the shadow of its class written. -/
theorem requestEffect_decode_of_requestList {s : State} {w : ReqWord} {l : List Action} (hst : s.st = .ready)
    (h : requestList s.pinMap s.bl w = some l) : requestEffect (decode w) s = startList l (requestShadow w s) := by
  have hst' : s.st ≠ .fault := by simp [hst]
  rw [requestEffect_decode w hst', dispatchWord, if_neg hst', requestShadow]
  unfold requestList at h
  split_ifs at h ⊢ <;> cases h <;> rfl

/-- Settles O12: the word is accepted and its list started, and the list comes to its list run and the response. -/
theorem requestRunRefinesListRun : Obligations.RequestRunRefinesListRun := by
  intro s w queue l r hq hst hqueue hl hr resp s1
  have haccept := step_accepts hq hst hqueue
  rw [requestEffect_decode_of_requestList (s := accept w queue s) hst hl, requestShadow_accept] at haccept
  obtain ⟨n, t, hn, ht⟩ := run_list_exec (s := startList l (accept w queue (requestShadow w s))) (r := r)
    (startList_quiet.mpr (requestShadow_quiet.mpr hq)) (startList_st _ _) (startList_aix _ _)
    (by simpa using List.ne_nil_of_length_pos (length_requestList hl).1) (by simpa using hr)
  refine ⟨n + 1, t, (run_succ n haccept).trans hn, ht.trans ?_⟩
  have hs1 : s1 = requestShadow w s := rfl
  simp [hs1, resp, hst]

end Sys2Proof.Machine

/-! PROOFS. Requests (spec/41_requests.md): what a word comes to when it is accepted, what keeps a word on the host's queue,
what changes the backlight flag, and how a request's list runs to its end (`runsToEnd_of_started`). -/

namespace Sys2Proof.Machine

open Sys2Proof.Config

/-! ## The dispatch of a word (R82, R88) -/

/-- Settles O11: in FAULT both answer ERR_FAULT, and in READY the decoded instruction has the effect of the dispatch. -/
theorem meaningsAgreeWithDispatchByWord : Obligations.MeaningsAgreeWithDispatchByWord := by
  intro s w hst
  rw [exec_eq_dispatch]
  rcases hst with hready | hfault
  · rw [dispatch_ready _ hready, requestEffect_decode w (by simp [hready])]
  · rw [dispatch_fault _ hfault, dispatchWord, if_pos hfault]

/-- R56: the illegal words, condition by condition. -/
theorem illegal_iff (w : ReqWord) :
    illegal w = true ↔
      opOf w = 0b11 ∨ (opOf w = 0b10 ∧ (argOf w).extractLsb' 1 7 ≠ 0) ∨ (opOf w = 0b00 ∧ argOf w = 0x00) ∨
        (opOf w = 0b00 ∧ (argOf w).extractLsb' 4 4 = 0b0011) := by
  simp [illegal, or_assoc]

theorem dispatchWord_of_illegal {w : ReqWord} {s : State} (hst : s.st = .ready) (hillegal : illegal w = true) :
    dispatchWord w s = respond .errIllegal s := by
  simp [dispatchWord, hst, hillegal]

/-- R82: a legal word accepted in READY starts a list or is answered OK. -/
theorem dispatchWord_of_legal {w : ReqWord} {s : State} (hst : s.st = .ready) (hlegal : illegal w ≠ true) :
    (dispatchWord w s).st = .exec ∨ (dispatchWord w s).lastResp = .ok := by
  have hst' : s.st ≠ .fault := by simp [hst]
  unfold dispatchWord
  rw [if_neg hst', if_neg hlegal]
  split_ifs
  · exact .inl (startList_st _ _)
  · exact .inl (startList_st _ _)
  · exact .inr rfl

/-- Settles O8: an illegal word is answered ERR_ILLEGAL, and a legal one leaves READY or is answered OK. -/
theorem illegalWordsAreRefusedWithNoWrite : Obligations.IllegalWordsAreRefusedWithNoWrite := by
  intro s w hst op arg
  have hexec := meaningsAgreeWithDispatchByWord s w (.inl hst)
  refine (illegal_iff w).symm.trans ⟨fun hillegal => ?_, ?_⟩
  · rw [dispatchWord_of_illegal hst hillegal] at hexec
    exact ⟨_, hexec, respond_of_ready hst .errIllegal⟩
  · rintro ⟨t, ht, hframe⟩
    have hword : dispatchWord w s = t := Host.Outcome.next.inj (hexec.symm.trans ht)
    by_contra hlegal
    rcases dispatchWord_of_legal hst hlegal with hstart | hok
    · rw [hword, hframe] at hstart
      simp [hst] at hstart
    · rw [hword, hframe] at hok
      simp at hok

/-! ## SETBL and the backlight flag (R86, R90) -/

/-- R119: in FAULT a response changes `LAST_RESP` and `REQ` only, beside the pulse and its event. -/
theorem respond_of_fault {s : State} (hst : s.st = .fault) (c : RespCode) :
    respond c s =
      { s with
        lastResp := c, rsp := some c, events := s.events ++ [.resp c],
        req := (respond c s).req, freeCount := (respond c s).freeCount } := by
  simp [respond, hst]

/-- Settles O7: the effect of SETBL is the response OK with `BL` written, the word with more bits set is an illegal
instruction's, and in FAULT the answer is ERR_FAULT. -/
theorem setblWritesBacklightAndAnswersOk : Obligations.SetblWritesBacklightAndAnswersOk := by
  refine ⟨fun s b hst => ?_, fun s p low hst hp => ?_, fun s b hst => ?_⟩
  · refine ⟨respond .ok { s with bl := b }, ?_, respond_of_ready (s := { s with bl := b }) hst .ok⟩
    rw [exec_eq_dispatch, dispatch_ready _ hst]
    rfl
  · have hdecode : decode (0b10#2 ++ (p ++ low)) = .illegalSetbl p low :=
      decode_of_eq_encode rfl (bne_iff_ne.mpr hp)
    rw [hdecode]
    exact illegalInstructionsAnswerErrIllegal s _ hst (.inr (.inr (.inl ⟨p, low, rfl⟩)))
  · refine ⟨respond .errFault s, ?_, respond_of_fault hst .errFault⟩
    rw [exec_eq_dispatch, dispatch_fault _ hst]

/-- R90: of the requests, SETBL alone changes `BL`. -/
theorem requestEffect_bl {i : Instr} {s : State} (h : (requestEffect i s).bl ≠ s.bl) :
    i = .setbl (requestEffect i s).bl := by
  cases i with
  | setbl b => simp [requestEffect]
  | _ => simp [requestEffect, sendCommand] at h

/-- Settles O40: outside a reset, only a request accepted in READY writes `BL`. -/
theorem onlySetblAndResetChangeBacklight : Obligations.OnlySetblAndResetChangeBacklight := by
  intro s t hstep hne
  cases stepKind_of_step hstep with
  | resetAsserted rest hinputs => exact .inl (.inl ⟨rest, hinputs⟩)
  | resetReleased rest hinputs _ _ => exact .inl (.inr ⟨rest, hinputs⟩)
  | outside _ hsame => rw [hsame] at hne; exact absurd rfl hne
  | pulseEnds _ => simp at hne
  | listRuns _ _ _ => simp at hne
  | refusedInFault w rest _ _ => simp at hne
  | accepted w rest hacc hst =>
    exact .inr ⟨hst, w, hacc, requestEffect_bl (s := accept w rest (tickInputs s)) (by simpa using hne)⟩

/-! ## The host's queue (R81) -/

/-- A pin event takes no word off the host's queue. -/
theorem applyInput_hostQueue {e : Input} {s t : State} (h : applyInput e s = .next t) :
    ∃ added, t.hostQueue = s.hostQueue ++ added := by
  rcases applyInput_next h with ⟨-, rfl⟩ | ⟨-, -, rfl⟩ | ⟨-, -, -, rfl⟩ | ⟨a, r, f, -, rfl⟩ | ⟨w, -, rfl⟩ | ⟨a, -, rfl⟩
  case inr.inr.inr.inr.inl => exact ⟨[w], rfl⟩
  all_goals exact ⟨[], by simp [assertReset]⟩

/-- A step of the block takes a word off the host's queue only where the request port is ready. -/
theorem blockStep_hostQueue {s t : State} (h : blockStep s = .next t) (hready : reqReady s = false) :
    t.hostQueue = s.hostQueue := by
  rcases blockStep_next h with ⟨-, rfl⟩ | ⟨-, -, rfl⟩ | ⟨-, -, -, rfl⟩ | ⟨-, -, -, -, rfl⟩ | ⟨w, rest, -, hrsp, hst, -, -⟩
  · rfl
  · rfl
  · exact executorStep_hostQueue s
  · rfl
  · rcases hst with hst | hst <;> simp [reqReady, hst, hrsp] at hready

/-- Settles O34: a pin event adds words only, and the block takes none where the port is not ready. -/
theorem requestsAreHeldUntilReady : Obligations.RequestsAreHeldUntilReady := by
  intro s t hstep hready
  rcases step_next hstep with ⟨e, rest, -, happly⟩ | ⟨-, hblock⟩
  · exact applyInput_hostQueue (s := takeInput rest s) happly
  · have hkept := blockStep_hostQueue hblock (by simpa [reqReady] using hready)
    exact ⟨[], by simpa using hkept⟩

/-- Settles O32: the step is the block's, and the block's is the request port's. -/
theorem stepRunsTheAcceptedRequest : Obligations.StepRunsTheAcceptedRequest := by
  intro s w queue hrst hdue hrsp hst hqueue
  rw [step_not_due hdue]
  rcases hst with hst | hst <;> simp [blockStep, requestStep, hrst, hrsp, hst, hqueue, accept]

/-- Settles O33: the state with the word placed meets what the acceptance of a word needs. -/
theorem placedWordIsRunNext : Obligations.PlacedWordIsRunNext := by
  intro s w
  have hword : BitVec.ofNat 10 (w.toNat % 2 ^ 16) = w := by
    have hw := w.isLt
    rw [Nat.mod_eq_of_lt (by omega), BitVec.ofNat_toNat, BitVec.setWidth_eq]
  have hst : (presentWord w s).st = .ready ∨ (presentWord w s).st = .fault := by
    by_cases hfault : s.st = .fault <;> simp [presentWord, hfault]
  refine ⟨{ tickInputs (presentWord w s) with req := w, hostQueue := s.hostQueue }, ?_, ?_, rfl, rfl, ?_⟩
  · rcases hst with hst | hst <;> simp [hst]
  · rcases hst with hst | hst <;> simp [hst]
  · rw [State.withFetchWord, hword]
    exact stepRunsTheAcceptedRequest (presentWord w s) w s.hostQueue rfl rfl rfl hst rfl

/-! ## A list ends in a wait, so that the timer is 0 after it (R26, R78) -/

/-- The last action of the list is a wait. -/
def LastIsWait (l : List Action) : Prop := ∃ t, l.getLast? = some (.wait t)

theorem lastIsWait_send (pm : PinMap) (bl : Bit) (v : Byte) (m : Bit) : LastIsWait (send pm bl v m) := ⟨50, rfl⟩

theorem lastIsWait_cmdList (pm : PinMap) (bl : Bit) (v : Byte) : LastIsWait (cmdList pm bl v) := by
  rw [cmdList_eq]
  split
  · exact ⟨2000, List.getLast?_concat⟩
  · rw [List.append_nil]
    exact lastIsWait_send pm bl v 0

theorem lastIsWait_initList (pm : PinMap) (bl n f : Bit) : LastIsWait (initList pm bl n f) := ⟨50, rfl⟩

theorem wait_of_lastIsWait {l : List Action} {i : Nat} {a : Action} (hl : LastIsWait l) (ha : l[i]? = some a)
    (hlast : l.length ≤ i + 1) : ∃ t, a = .wait t := by
  obtain ⟨t, ht⟩ := hl
  have hi : l.length - 1 = i := by
    have hlt := (List.getElem?_eq_some_iff.mp ha).1
    omega
  rw [List.getLast?_eq_getElem?, hi, ha] at ht
  exact ⟨t, Option.some.inj ht⟩

/-- The list in `ACT` ends in a wait, and past its last action no list runs and the timer is 0. -/
structure State.EndsInWait (s : State) : Prop where
  last : LastIsWait s.act
  pastEnd : s.act.length ≤ s.aix → s.tmr = 0 ∧ s.st ≠ .init ∧ s.st ≠ .exec

theorem State.EndsInWait.congr {s t : State} (h : s.EndsInWait) (hact : t.act = s.act) (haix : t.aix = s.aix)
    (htmr : t.tmr = s.tmr) (hst : t.st = s.st) : t.EndsInWait where
  last := hact ▸ h.last
  pastEnd := by
    rw [hact, haix, htmr, hst]
    exact h.pastEnd

/-- Where `AIX` is an index of the list, only the list's last action matters. -/
theorem endsInWait_of_index {s : State} (hlast : LastIsWait s.act) (hindex : s.aix < s.act.length) : s.EndsInWait where
  last := hlast
  pastEnd := fun hover => absurd hindex (Nat.not_lt.mpr hover)

theorem endsInWait_startList {s : State} {l : List Action} (h : LastIsWait l) : (startList l s).EndsInWait := by
  refine endsInWait_of_index (by simpa using h) ?_
  obtain ⟨t, ht⟩ := h
  rw [startList_aix, startList_act]
  exact List.length_pos_iff.mpr fun hnil => by simp [hnil] at ht

/-- R31: reset starts the initialization list, whatever the level of `rst`. -/
theorem endsInWait_reset (level : Bool) (addr : I2cAddr) (n f : Bit) (s : State) :
    (setRst level (resetRegs addr n f s)).EndsInWait := by
  refine endsInWait_of_index (lastIsWait_initList s.pinMap resetBl n f) ?_
  have hlength : (initList s.pinMap resetBl n f).length = 67 := length_initList _ _ _ _
  simp [hlength]

theorem endsInWait_advance {s : State} (hlast : LastIsWait s.act) (hrun : s.st = .init ∨ s.st = .exec)
    (htmr : s.act.length ≤ s.aix + 1 → s.tmr = 0) : (advance s).EndsInWait where
  last := by simpa using hlast
  pastEnd := by
    rw [advance_act, advance_aix]
    intro hend
    have hready : (finishList (nextIndex s)).st = .ready := finishList_st hrun
    rw [advance_end hend, hready]
    exact ⟨by simpa using htmr hend, by simp, by simp⟩

/-- R78: the action that the executor ends a list with is a wait that is over. -/
theorem endsInWait_executorStep {s : State} (h : s.EndsInWait) (hrun : s.st = .init ∨ s.st = .exec) :
    (executorStep s).EndsInWait := by
  have hindex : s.aix < s.act.length := by
    by_contra hover
    obtain ⟨-, hinit, hexec⟩ := h.pastEnd (Nat.not_lt.mp hover)
    exact hrun.elim hinit hexec
  rcases executorStep_cases s with ⟨hnone, he⟩ | ⟨b, hact, ⟨-, he⟩ | ⟨rest, -, he⟩ | ⟨rest, -, he⟩⟩ |
    ⟨t, hact, ⟨htmr, he⟩ | ⟨-, he⟩⟩ <;> rw [he]
  · exact absurd (List.getElem?_eq_none_iff.mp hnone) (Nat.not_le.mpr hindex)
  · exact h
  · refine endsInWait_advance h.last hrun fun hend => ?_
    obtain ⟨t, ht⟩ := wait_of_lastIsWait h.last hact hend
    cases ht
  · exact endsInWait_of_index (by simpa using h.last) (by simpa using hindex)
  · exact endsInWait_advance h.last hrun fun _ => htmr
  · exact endsInWait_of_index h.last hindex

/-- R82: a word accepted in READY leaves the list and its end as they are, or starts a list that ends in a wait. -/
theorem endsInWait_requestEffect {s : State} (w : ReqWord) (h : s.EndsInWait) (hst : s.st = .ready) :
    (requestEffect (decode w) s).EndsInWait := by
  rcases requestEffect_decode_cases w hst with he | ⟨-, -, he⟩ | ⟨-, -, he⟩ | ⟨b, he⟩ <;> rw [he]
  · exact h.congr rfl rfl rfl (by simp [hst])
  · exact endsInWait_startList (lastIsWait_cmdList _ _ _)
  · exact endsInWait_startList (lastIsWait_send _ _ _ _)
  · exact h.congr rfl rfl rfl (by simp [hst])

theorem endsInWait_step {s t : State} (hstep : step s = .next t) (h : s.EndsInWait) : t.EndsInWait := by
  have htick : (tickInputs s).EndsInWait := h.congr (by simp) (by simp) (by simp) (by simp)
  cases stepKind_of_step hstep with
  | resetAsserted rest _ => exact endsInWait_reset _ _ _ _ _
  | resetReleased rest _ _ _ => exact endsInWait_reset _ _ _ _ _
  | outside _ hsame => rw [hsame]; exact h.congr rfl rfl rfl rfl
  | pulseEnds _ => exact htick.congr rfl rfl rfl rfl
  | listRuns _ _ hst => exact endsInWait_executorStep htick (by simpa using hst)
  | refusedInFault w rest _ hst => exact htick.congr rfl rfl rfl (by simp [hst])
  | accepted w rest _ hst =>
    exact endsInWait_requestEffect w (htick.congr rfl rfl rfl rfl) (by simpa using hst)

/-- What every step keeps holds at the end of a run. -/
theorem run_keeps {P : State → Prop} (hkeeps : ∀ {s t}, step s = .next t → P s → P t) {n : Nat} {s t : State}
    (h : Host.Core.run Sys2Proof.core n s = .next t) (hs : P s) : P t := by
  induction n generalizing s with
  | zero =>
    cases h
    exact hs
  | succ n ih =>
    obtain ⟨u, hstep, hrest⟩ := step_of_run_succ h
    exact ih hrest (hkeeps hstep hs)

/-! ## A request's list from its start to the response (R78, R83, R117) -/

/-- R78: a list all of whose writes are answered OK runs to its end, with every action performed in order. -/
theorem runList_all_ok (addr : I2cAddr) (l : List Action) (rest : List BusAnswer) :
    runList addr l (List.replicate (writeCount l) .ok ++ rest) = some ⟨okEvents addr l, true, l.length, rest⟩ := by
  induction l with
  | nil => rfl
  | cons a l ih =>
    cases a with
    | wait t =>
      have hcount : writeCount (.wait t :: l) = writeCount l := by simp [writeCount]
      rw [hcount, runList, ih]
      rfl
    | write b =>
      have hcount : writeCount (.write b :: l) = writeCount l + 1 := by simp [writeCount, Nat.add_comm]
      rw [hcount, List.replicate_succ, List.cons_append, runList, ih]
      rfl

/-- R83, R117: a list that has just started in EXEC and ends in a wait runs to its one response. -/
theorem runsToEnd_of_started {u : State} (hst : u.st = .exec) (haix : u.aix = 0) (hlast : LastIsWait u.act) :
    RunsToEnd u := by
  intro hq
  have hact : u.act ≠ [] := by
    obtain ⟨t, ht⟩ := hlast
    exact fun hnil => by simp [hnil] at ht
  refine ⟨fun rest hanswers => ?_, fun r hr => ?_⟩
  · have hr := runList_all_ok u.cfgAddr u.act rest
    rw [← hanswers] at hr
    obtain ⟨n, t, hn, ht⟩ := run_list_exec hq hst haix hact hr
    have hends : t.EndsInWait :=
      run_keeps endsInWait_step hn (endsInWait_of_index hlast (haix ▸ List.length_pos_iff.mpr hact))
    have htmr : t.tmr = 0 := (hends.pastEnd (by rw [ht])).1
    refine ⟨n, t, hn, ?_⟩
    rw [htmr] at ht
    rw [ht]
    rfl
  · obtain ⟨n, t, hn, ht⟩ := run_list_exec hq hst haix hact hr
    exact ⟨n, t, hn, by rw [ht]⟩

/-- Settles O6: the effect of DATA starts the two nibble transfers, which end in a wait. -/
theorem dataSendsWithRegisterSelect : Obligations.DataSendsWithRegisterSelect := by
  intro s d hst u
  have hsend : send s.pinMap s.bl d 1 = byteForm s.pinMap s.bl d 1 := sendIsTwoNibbleTransfersHighFirst _ _ _ _
  have hlast : LastIsWait (byteForm s.pinMap s.bl d 1) := hsend ▸ lastIsWait_send s.pinMap s.bl d 1
  refine ⟨?_, runsToEnd_of_started rfl rfl hlast⟩
  rw [exec_eq_dispatch, dispatch_ready _ hst]
  simp only [requestEffect, hsend]
  rfl

end Sys2Proof.Machine

/-! PROOFS. The command classes: what each starts in READY, and that its list runs to its one response
(spec/42_commands.md R91 to R98). -/

namespace Sys2Proof.Machine

open Sys2Proof.Config

/-! ## What the classes share: the byte is sent, and then the tail -/

/-- R82, R84: a command starts its list with a write, so that no timer is armed. -/
theorem sendCommand_eq_byteForm (v : Byte) (tail : List Action) (s : State) :
    sendCommand v tail s = { s with st := .exec, act := byteForm s.pinMap s.bl v 0 ++ tail, aix := 0 } := by
  rw [sendCommand, sendIsTwoNibbleTransfersHighFirst s.pinMap s.bl v 0]
  rfl

/-- R78, R84: a command in READY whose effect is to send `v` from `u` comes to the started list, and the list runs to its
one response, if it ends in a wait. -/
theorem exec_starts_and_runs {i : Instr} {s : State} (v : Byte) (tail : List Action) (u : State) (hst : s.st = .ready)
    (heffect : requestEffect i s = sendCommand v tail u) (hlast : LastIsWait (byteForm u.pinMap u.bl v 0 ++ tail)) :
    let started := { u with st := .exec, act := byteForm u.pinMap u.bl v 0 ++ tail, aix := 0 }
    exec i s = .next started ∧ RunsToEnd started := by
  refine ⟨?_, runsToEnd_of_started rfl rfl hlast⟩
  rw [exec_eq_dispatch, dispatch_ready _ hst, heffect, sendCommand_eq_byteForm]

/-- R77: a byte with nothing after it ends in the settling of its second transfer. -/
theorem lastIsWait_byteForm (pm : PinMap) (bl : Bit) (v : Byte) : LastIsWait (byteForm pm bl v 0 ++ []) := ⟨50, rfl⟩

/-- R91, R92: a byte with the long wait after it ends in that wait. -/
theorem lastIsWait_byteForm_tLong (pm : PinMap) (bl : Bit) (v : Byte) :
    LastIsWait (byteForm pm bl v 0 ++ [.wait tLong]) := ⟨2000, rfl⟩

/-! ## The classes -/

/-- Settles O1: both effects send the class's byte with the long wait after it. -/
theorem clearAndHomeSendAndWaitLong : Obligations.ClearAndHomeSendAndWaitLong := fun s hst =>
  ⟨⟨_, rfl, exec_starts_and_runs clearByte [.wait tLong] s hst rfl (lastIsWait_byteForm_tLong _ _ _)⟩,
    fun x => ⟨_, rfl, exec_starts_and_runs (homeByte x) [.wait tLong] s hst rfl (lastIsWait_byteForm_tLong _ _ _)⟩⟩

/-- Settles O2: the effect sends the byte from the state with `EMODE` written. -/
theorem entryModeSetWritesEmodeAndSends : Obligations.EntryModeSetWritesEmodeAndSends := fun s i sh hst =>
  exec_starts_and_runs (entryModeByte i sh) [] { s with emode := i ++ sh } hst rfl (lastIsWait_byteForm _ _ _)

/-- Settles O3: the effect sends the byte from the state with `DCTL` written. -/
theorem displayControlWritesDctlAndSends : Obligations.DisplayControlWritesDctlAndSends := fun s d c b hst =>
  exec_starts_and_runs (displayControlByte d c b) [] { s with dctl := d ++ (c ++ b) } hst rfl (lastIsWait_byteForm _ _ _)

/-- Settles O5: each effect sends the byte from the state as it is. -/
theorem shiftAndAddressCommandsOnlySend : Obligations.ShiftAndAddressCommandsOnlySend := fun s hst =>
  ⟨fun c r x => exec_starts_and_runs (cursorShiftByte c r x) [] s hst rfl (lastIsWait_byteForm _ _ _),
    fun a => exec_starts_and_runs (setCgramByte a) [] s hst rfl (lastIsWait_byteForm _ _ _),
    fun a => exec_starts_and_runs (setDdramByte a) [] s hst rfl (lastIsWait_byteForm _ _ _)⟩

/-! ## FUNCTION_SET, and that `FUNC.DL` stays 0 (R22, R96) -/

/-- R96: the function-set byte, its DL written as the fourth bit of the class's prefix. -/
theorem functionSetByte_zero : ∀ (n f : Bit) (x : BitVec 2),
    functionSetByte 0 n f x = 0b0010#4 ++ (n ++ (f ++ x)) := by
  decide

/-- R22: a value written to `FUNC` with its DL bit 0 has the data length 0. -/
theorem dataLength_of_written : ∀ n f : Bit, (0#1 ++ (n ++ f)).extractLsb' 2 1 = 0#1 := by
  decide

/-- R108: an action of the list that runs keeps `FUNC.DL` at 0. -/
theorem executorStep_dataLength {s : State} (h : s.func.extractLsb' 2 1 = 0) :
    (executorStep s).func.extractLsb' 2 1 = 0 := by
  by_cases hfunc : (executorStep s).func = s.func
  · rw [hfunc, h]
  · obtain ⟨-, -, hval⟩ := (executorStep_shadows s).1 hfunc
    rw [hval]
    exact dataLength_of_written s.cfgN s.cfgF

/-- R96: a request keeps `FUNC.DL` at 0. -/
theorem requestEffect_dataLength (i : Instr) {s : State} (h : s.func.extractLsb' 2 1 = 0) :
    (requestEffect i s).func.extractLsb' 2 1 = 0 := by
  by_cases hfunc : (requestEffect i s).func = s.func
  · rw [hfunc, h]
  · obtain ⟨n, f, -, -, hval⟩ := requestEffect_func hfunc
    rw [hval]
    exact dataLength_of_written n f

/-- R22, R96: no step sets `FUNC.DL`. -/
theorem step_dataLength {s t : State} (h : s.func.extractLsb' 2 1 = 0) (hstep : step s = .next t) :
    t.func.extractLsb' 2 1 = 0 := by
  have hreset : resetFunc.extractLsb' 2 1 = 0 := by decide
  have htick : (tickInputs s).func.extractLsb' 2 1 = 0 := by rw [tickInputs_func, h]
  cases stepKind_of_step hstep with
  | resetAsserted rest _ => exact hreset
  | resetReleased rest _ _ _ => exact hreset
  | outside _ hsame => rw [hsame]; exact h
  | pulseEnds _ => exact htick
  | listRuns _ _ _ => exact executorStep_dataLength htick
  | refusedInFault w rest _ _ => exact htick
  | accepted w rest _ _ => exact requestEffect_dataLength (decode w) htick

/-- Settles O4: the legal effect sends the byte from the state with `FUNC` written, the illegal form is one of the illegal
instructions, and no step sets `FUNC.DL`. -/
theorem functionSetWritesFuncAndSends : Obligations.FunctionSetWritesFuncAndSends := by
  refine ⟨fun s n f x hst => ?_, fun s x hst => ?_, fun _ _ => step_dataLength⟩
  · have heffect : requestEffect (.cmdFunctionSet n f x) s =
        sendCommand (0b0010#4 ++ (n ++ (f ++ x))) [] { s with func := 0#1 ++ (n ++ f) } := by
      rw [← functionSetByte_zero]
      rfl
    exact exec_starts_and_runs _ [] { s with func := 0#1 ++ (n ++ f) } hst heffect (lastIsWait_byteForm _ _ _)
  · exact illegalInstructionsAnswerErrIllegal s (.illegalFunctionSetDl1 x) hst (.inr (.inl ⟨x, rfl⟩))

end Sys2Proof.Machine

/-! PROOFS. Initialization: its list, step by step, with the counts of it (spec/43_init.md R109, R110), and that the steps of
the machine come to its list run (R108, R111, R112). -/

namespace Sys2Proof.Machine

open Sys2Proof.Config

/-! ## The list in full (R109) -/

/-- R100: the first write is the backlight term alone. -/
theorem initStep1_eq (pm : PinMap) (bl : Bit) : initStep1 pm bl = [.write (blTerm pm bl), .wait 20000] := by
  rw [initStep1, expanderWrite, show 0x00 ||| blTerm pm bl = blTerm pm bl from BitVec.zero_or]
  rfl

/-- R101, R102: the function-reset nibble as a transfer. -/
theorem writeNibble_functionReset (pm : PinMap) (bl : Bit) :
    writeNibble pm bl functionResetNibble = nibbleForm pm bl 0x3 0 :=
  writeNibble_eq_nibbleForm pm bl 0x3 0

/-- R103: the nibble of the 4-bit mode as a transfer. -/
theorem writeNibble_fourBit (pm : PinMap) (bl : Bit) : writeNibble pm bl fourBitNibble = nibbleForm pm bl 0x2 0 :=
  writeNibble_eq_nibbleForm pm bl 0x2 0

/-- R104: the function-set byte of step 5, as fields side by side. -/
theorem initFunctionSetByte_eq_fields : ∀ n f : Bit, initFunctionSetByte n f = 0b0010#4 ++ (n ++ (f ++ 0#2)) := by decide

/-- Settles O20: each step is its transfers and waits, and with the masks and the flags given the bytes compute. -/
theorem initListInFull : Obligations.InitListInFull := by
  refine ⟨fun pm bl n f => ?_, by decide⟩
  have hsend := sendIsTwoNibbleTransfersHighFirst pm bl
  simp only [initList, initStep1_eq, initStep2, initStep3, initStep4, initStep5, initStep6, initStep7, initStep8,
    writeNibble_functionReset, writeNibble_fourBit, initFunctionSetByte_eq_fields, hsend,
    List.flatten_cons, List.flatten_nil, List.append_assoc, List.append_nil]
  rfl

/-! ## The counts of the list (R110) -/

/-- R110: the counts are those of the first step's write and wait, of four nibble transfers and four bytes, and of the waits
after them. -/
theorem counts_initList (pm : PinMap) (bl n f : Bit) :
    writeCount (initList pm bl n f) = 37 ∧ waitCount (initList pm bl n f) = 30 ∧
      waitTotal (initList pm bl n f) = 34612 := by
  have hnibble (v : Byte) := (nibbleAndSendCounts pm bl v 0).1
  have hsend (v : Byte) := (nibbleAndSendCounts pm bl v 0).2
  have hwait (t : Nat) : writeCount [.wait t] = 0 ∧ waitCount [.wait t] = 1 ∧ waitTotal [.wait t] = t := ⟨rfl, rfl, rfl⟩
  have hwrite : writeCount (expanderWrite pm bl 0x00) = 1 ∧ waitCount (expanderWrite pm bl 0x00) = 0 ∧
      waitTotal (expanderWrite pm bl 0x00) = 0 := ⟨rfl, rfl, rfl⟩
  simp only [initList, initStep1, initStep2, initStep3, initStep4, initStep5, initStep6, initStep7, initStep8,
    writeCount_append, waitCount_append, waitTotal_append, hnibble, hsend, hwait, hwrite, tPowerOn, tReset1, tReset3,
    t4Bit, tLong, Nat.reduceAdd, and_self]

theorem pulseCount_singleton_wait (pm : PinMap) (t : Nat) : pulseCount pm [.wait t] = 0 := rfl

section

variable {pm : PinMap} (bl : Bit) (h : pm.wf = true)
include h

/-- R100 to R103: the backlight write raises no EN, and each nibble of steps 2 to 4 raises it once. -/
theorem pulseCount_initSteps1To4 :
    pulseCount pm (initStep1 pm bl ++ initStep2 pm bl ++ initStep3 pm bl ++ initStep4 pm bl) = 4 := by
  have hreset := pulseCount_writeNibble (n := functionResetNibble) bl h (by decide)
  have hfour := pulseCount_writeNibble (n := fourBitNibble) bl h (by decide)
  have hfirst : pulseCount pm (initStep1 pm bl) = 0 := by
    rw [initStep1_eq, pulseCount_enLow _ (blTerm_and_enMask bl h), pulseCount_singleton_wait]
  simp only [initStep2, initStep3, initStep4, pulseCount_append, pulseCount_singleton_wait, hreset, hfour,
    hfirst]

/-- R104 to R107: each of steps 5 to 8 sends one byte. -/
theorem pulseCount_initSteps5To8 (n f : Bit) :
    pulseCount pm (initStep5 pm bl n f ++ initStep6 pm bl ++ initStep7 pm bl ++ initStep8 pm bl) = 8 := by
  simp only [initStep5, initStep6, initStep7, initStep8, pulseCount_append, pulseCount_singleton_wait,
    pulseCount_send bl _ _ h]

end

/-- Settles O21: the single nibble transfers are those of steps 1 to 4, which are 26 actions. -/
theorem initListCounts : Obligations.InitListCounts := by
  intro pm bl n f
  obtain ⟨hwrites, hwaits, htotal⟩ := counts_initList pm bl n f
  refine ⟨length_initList pm bl n f, hwrites, hwaits, htotal, fun hwf => ?_⟩
  have hsplit : (initStep1 pm bl ++ initStep2 pm bl ++ initStep3 pm bl ++ initStep4 pm bl).length = 26 := rfl
  rw [initList_split, List.take_left' hsplit, List.drop_left' hsplit]
  exact ⟨pulseCount_initSteps1To4 bl hwf, pulseCount_initSteps5To8 bl hwf n f⟩

/-! ## The shadows that initialization has written (R108) -/

/-- R108: each shadow is written if `AIX` has reached its step, and has its reset value if not. -/
structure State.ShadowsReached (s : State) : Prop where
  func : s.func = if 26 ≤ s.aix then 0#1 ++ (s.cfgN ++ s.cfgF) else 0
  dctl : s.dctl = if 36 ≤ s.aix then 0b100 else 0
  emode : s.emode = if 57 ≤ s.aix then 0b10 else 0

theorem State.ShadowsReached.congr {s t : State} (h : s.ShadowsReached) (hfunc : t.func = s.func)
    (hdctl : t.dctl = s.dctl) (hemode : t.emode = s.emode) (haix : t.aix = s.aix) (hcfgN : t.cfgN = s.cfgN)
    (hcfgF : t.cfgF = s.cfgF) : t.ShadowsReached where
  func := by rw [hfunc, haix, hcfgN, hcfgF, h.func]
  dctl := by rw [hdctl, haix, h.dctl]
  emode := by rw [hemode, haix, h.emode]

theorem shadowsReached_of_initInv {s : State} (h : s.InitInv) : s.ShadowsReached :=
  ⟨h.funcShadow, h.dctlShadow, h.emodeShadow⟩

/-- R108: no shadow's step begins at the list's end, so that the last action completes with every shadow written. -/
theorem shadowsReached_advance {s : State} (h : s.ShadowsReached) (hst : s.st = .init) (hlen : s.act.length = 67) :
    (advance s).ShadowsReached := by
  obtain ⟨hfunc, hdctl, hemode⟩ := advance_shadows s
  have hwithin {k : Nat} (hk : k < 67) : (s.aix + 1 < s.act.length ∧ s.aix + 1 = k) ↔ s.aix + 1 = k :=
    and_iff_right_of_imp fun heq => by rwa [heq, hlen]
  simp only [hst, true_and, hwithin (k := 26) (by decide), hwithin (k := 36) (by decide),
    hwithin (k := 57) (by decide)] at hfunc hdctl hemode
  constructor
  · rw [hfunc, h.func, advance_aix, advance_cfgN, advance_cfgF, reached_succ]
  · rw [hdctl, h.dctl, advance_aix, reached_succ]
  · rw [hemode, h.emode, advance_aix, reached_succ]

/-- R108: an action of the initialization list leaves each shadow as its step has it, also where the list ends. -/
theorem shadowsReached_executorStep {s : State} (h : s.InitInv) (hst : s.st = .init) :
    (executorStep s).ShadowsReached := by
  have hreached := shadowsReached_of_initInv h
  have hlen : s.act.length = 67 := by rw [h.list, length_initList]
  rcases executorStep_cases s with ⟨-, he⟩ | ⟨b, -, ⟨-, he⟩ | ⟨rest, -, he⟩ | ⟨rest, -, he⟩⟩ | ⟨t, -, ⟨-, he⟩ | ⟨-, he⟩⟩ <;>
    rw [he]
  · exact hreached.congr (by simp) (by simp) (by simp) (by simp) (by simp) (by simp)
  · exact hreached
  · exact shadowsReached_advance (hreached.congr rfl rfl rfl rfl rfl rfl) hst hlen
  · exact hreached.congr (by simp) (by simp) (by simp) (by simp) (by simp) (by simp)
  · exact shadowsReached_advance (hreached.congr rfl rfl rfl rfl rfl rfl) hst hlen
  · exact hreached.congr rfl rfl rfl rfl rfl rfl

/-! ## From the release of reset to the end of the list (R111, R112) -/

theorem endList_init {s : State} (finished : Bool) (hst : s.st = .init) :
    endList finished s =
      { s with
        st := if finished then .ready else .fault
        lastResp := if finished then s.lastResp else .errTransport } := by
  cases finished <;> simp [endList, finishList, abortList, hst]

/-- R111, R112: the initialization list comes to its list run, with the shadows that it has reached. -/
theorem run_list_init {s : State} {r : ListRun} (hinv : s.Inv) (hq : s.Quiet) (hst : s.st = .init) (haix : s.aix = 0)
    (hr : runList s.cfgAddr s.act s.answers = some r) :
    ∃ n, ∃ t : State, Host.Core.run Sys2Proof.core n s = .next t ∧ t.ShadowsReached ∧
      t = { s with
        st := if r.finished then .ready else .fault
        lastResp := if r.finished then s.lastResp else .errTransport
        func := t.func, dctl := t.dctl, emode := t.emode
        aix := r.index, tmr := 0, answers := r.left, events := s.events ++ r.events } := by
  obtain ⟨n, u, hn, hon, hend⟩ := endsAs_runList hq (.inl hst) (index_of_running hinv (.inl hst)).1
    (by rw [haix]; rfl) hr
  have hust : u.st = .init := hon.st.trans hst
  have hstep := step_running (hon.quiet hq) (.inl hust)
  have huinv : u.Inv := run_keeps (fun hstep h => everyStepKeepsTheInvariant _ _ h hstep) hn hinv
  have htinv : (executorStep u).Inv := everyStepKeepsTheInvariant u _ huinv hstep
  refine ⟨n + 1, executorStep u, (run_add 1 hn).trans (run_one hstep),
    shadowsReached_executorStep (huinv.inInit hust) hust, ?_⟩
  have ht := hend.trans (endList_init _ hust)
  have htmr : u.tmr = 0 := by
    have htimer := htinv.timerIdle
    rw [ht] at htimer
    exact htimer (by cases r.finished <;> simp)
  rw [ht, htmr, haix]
  rw [RunsOn] at hon
  rw [hon]
  simp [hst]

/-- Settles O50: reset meets the invariant and is quiet, and each shadow is that of the index the list run stops at. -/
theorem initializationRunRefinesListRun : Obligations.InitializationRunRefinesListRun := by
  intro pm addr rows font h queue as r hwf s hr
  obtain ⟨-, hreset⟩ := invariantHoldsAtReset
  have hinv : s.Inv := inv_of_sameButOutside rfl (hreset pm addr rows font h hwf)
  obtain ⟨n, t, hn, ⟨hfunc, hdctl, hemode⟩, ht⟩ := run_list_init hinv ⟨rfl, rfl, rfl⟩ rfl rfl hr
  have haix : t.aix = r.index := by rw [ht]
  have hcfgN : t.cfgN = lineBit rows := by rw [ht]; rfl
  have hcfgF : t.cfgF = font := by rw [ht]; rfl
  rw [haix] at hfunc hdctl hemode
  rw [hcfgN, hcfgF] at hfunc
  rw [hfunc, hdctl, hemode] at ht
  refine ⟨n, t, hn, ht, fun hfin => ?_⟩
  rw [ht]
  simp [reqReady, hfin, s, State.resetWith]

end Sys2Proof.Machine

/-! PROOFS. Errors: a write answered ERR, what FAULT does with a request and with a step, and the words that are legal
by construction (spec/60_exceptions.md R112, R114, R116, R117, R119). -/

namespace Sys2Proof.Machine

open Sys2Proof.Config

/-! ## Taking a transport error (R112, R117) -/

/-- R117: in EXEC the list stops at the failed write with the response ERR_TRANSPORT. -/
theorem abortList_logEvent_exec {s : State} (e : Event) (hst : s.st = .exec) :
    abortList (logEvent e s) =
      { s with
        st := .ready, lastResp := .errTransport, rsp := some .errTransport
        events := s.events ++ [e, .resp .errTransport]
        req := (abortList (logEvent e s)).req, freeCount := (abortList (logEvent e s)).freeCount } := by
  simp [abortList, respond, logEvent, hst]

/-- R112: in INIT the list stops at the failed write in FAULT, with no response. -/
theorem abortList_logEvent_init {s : State} (e : Event) (hst : s.st = .init) :
    abortList (logEvent e s) = { s with st := .fault, lastResp := .errTransport, events := s.events ++ [e] } := by
  simp [abortList, logEvent, hst]

/-- Settles O30: the step is the executor's, which logs the failed write and aborts the list. -/
theorem transportErrorAbortsPrecisely : Obligations.TransportErrorAbortsPrecisely := by
  intro s b rest hq hact has
  have hstep (hrun : s.st = .init ∨ s.st = .exec) :
      step s = .next (abortList (logEvent (.write s.cfgAddr b .err) (takeAnswer rest s))) := by
    rw [step_running hq hrun, executorStep_write_err hact has]
  refine ⟨fun hst => ⟨_, hstep (.inr hst), ?_⟩, fun hst => ?_⟩
  · exact abortList_logEvent_exec (s := takeAnswer rest s) _ hst
  · exact (hstep (.inl hst)).trans
      (congrArg Host.Outcome.next (abortList_logEvent_init (s := takeAnswer rest s) _ hst))

/-! ## A request in FAULT (R116, R119) -/

/-- R116: in FAULT the answer is ERR_FAULT, whatever the instruction. -/
theorem exec_fault (i : Instr) {s : State} (hst : s.st = .fault) : exec i s = .next (respond .errFault s) := by
  rw [exec_eq_dispatch, dispatch_fault _ hst]

/-- Settles O10: the response is all that the meaning does in FAULT. -/
theorem everyRequestInFaultAnswersErrFault : Obligations.EveryRequestInFaultAnswersErrFault := fun s i hst =>
  ⟨respond .errFault s, exec_fault i hst, respond_of_fault hst .errFault⟩

/-- R81, R119: a word accepted in FAULT is answered ERR_FAULT by the step that accepts it. -/
theorem step_accepts_fault {s : State} {w : ReqWord} (hst : s.st = .fault) (hacc : s.acceptsNext w) :
    ∃ queue, step s = .next (respond .errFault (accept w queue (tickInputs s))) := by
  obtain ⟨hrst, hdue, -, hhead⟩ := id hacc
  obtain ⟨queue, hqueue⟩ := List.head?_eq_some_iff.mp hhead
  refine ⟨queue, ?_⟩
  rw [stepRunsTheAcceptedRequest s w queue hrst hdue (rsp_of_acceptsNext hacc) (.inr hst) hqueue]
  exact exec_fault (decode w) (s := accept w queue (tickInputs s)) (by simpa using hst)

/-! ## A step in FAULT (R119) -/

/-- Between `s` and `t` the block has at most ended a response pulse: beside that only the outside world has moved, and
the adapter has at most further answers to give. -/
def HoldsStill (s t : State) : Prop :=
  ∃ added, t = { s with
    rsp := t.rsp, inputs := t.inputs, cfgAddrPin := t.cfgAddrPin, cfgRowsPin := t.cfgRowsPin, cfgFontPin := t.cfgFontPin
    hostQueue := t.hostQueue, answers := s.answers ++ added }

theorem holdsStill_of_answers_eq {s t : State} (h : t = { s with
    rsp := t.rsp, inputs := t.inputs, cfgAddrPin := t.cfgAddrPin, cfgRowsPin := t.cfgRowsPin, cfgFontPin := t.cfgFontPin
    hostQueue := t.hostQueue }) : HoldsStill s t :=
  ⟨[], by simpa using h⟩

theorem holdsStill_tickInputs (s : State) : HoldsStill s (tickInputs s) := by
  rw [tickInputs_frame]
  exact holdsStill_of_answers_eq rfl

theorem holdsStill_endPulse_tickInputs (s : State) : HoldsStill s (endPulse (tickInputs s)) := by
  rw [tickInputs_frame]
  exact holdsStill_of_answers_eq rfl

/-- R128: a pin event that is no level of `rst` leaves the block as it is. -/
theorem holdsStill_of_applyInput {s t : State} {e : Input} {rest : List (Nat × Input)}
    (hinputs : s.inputs = (0, e) :: rest) (hreset : ¬ s.resetDue) (h : applyInput e (takeInput rest s) = .next t) :
    HoldsStill s t := by
  rcases applyInput_next h with ⟨rfl, -⟩ | ⟨rfl, -, -⟩ | ⟨rfl, -, -, -⟩ | ⟨a, r, f, -, rfl⟩ | ⟨w, -, rfl⟩ | ⟨a, -, rfl⟩
  · exact absurd (.inl ⟨rest, hinputs⟩) hreset
  · exact absurd (.inr ⟨rest, hinputs⟩) hreset
  · exact absurd (.inr ⟨rest, hinputs⟩) hreset
  · exact holdsStill_of_answers_eq rfl
  · exact holdsStill_of_answers_eq rfl
  · exact ⟨[a], rfl⟩

/-- R119: without a reset a step in FAULT holds the block still, or accepts a word and answers ERR_FAULT. -/
theorem step_fault_cases {s t : State} (hst : s.st = .fault) (hreset : ¬ s.resetDue) (h : step s = .next t) :
    HoldsStill s t ∨
      ∃ w rest, s.acceptsNext w ∧ t = respond .errFault (accept w rest (tickInputs s)) := by
  rcases step_next h with ⟨e, rest, hinputs, happly⟩ | ⟨hdue, hblock⟩
  · exact .inl (holdsStill_of_applyInput hinputs hreset happly)
  rcases blockStep_next hblock with ⟨-, rfl⟩ | ⟨-, -, rfl⟩ | ⟨-, -, hrun, -⟩ | ⟨-, -, -, -, rfl⟩ |
    ⟨w, rest, hrst, hrsp, -, hqueue, hexec⟩
  · exact .inl (holdsStill_tickInputs s)
  · exact .inl (holdsStill_endPulse_tickInputs s)
  · simp [hst] at hrun
  · exact .inl (holdsStill_tickInputs s)
  · rw [exec_fault _ (by simpa using hst)] at hexec
    rw [tickInputs_rst] at hrst
    rw [tickInputs_rsp] at hrsp
    rw [tickInputs_hostQueue] at hqueue
    exact .inr ⟨w, rest, ⟨hrst, hdue, by simp [reqReady, hst, hrsp], by simp [hqueue]⟩, by cases hexec; rfl⟩

/-- Settles O39: FAULT is entered by a transition of R25, and a step in it holds still or answers a word. -/
theorem faultIsStickyWithoutReset : Obligations.FaultIsStickyWithoutReset := by
  refine ⟨fun s t hstep ht => ?_, fun s t hst hstep hreset => ?_, fun s w hst hacc => ?_⟩
  · by_cases hsame : t.st = s.st
    · exact .inl (hsame ▸ ht)
    rcases sequencerTransitions s t hstep hsame with ⟨-, hto⟩ | ⟨hfrom, -⟩ | ⟨hfrom, -⟩ | ⟨-, hto, -⟩ | ⟨-, hto, -⟩
    · simp [ht] at hto
    · exact .inr hfrom
    · exact .inr hfrom
    · simp [ht] at hto
    · simp [ht] at hto
  · have hbus : busOut s = none := by simp [busOut, running, hst]
    rcases step_fault_cases hst hreset hstep with ⟨added, ht⟩ | ⟨w, rest, hacc, rfl⟩
    · rw [ht]
      simp [hst, hbus]
    · simpa [hst, hbus] using ⟨w, hacc⟩
  · obtain ⟨queue, hstep⟩ := step_accepts_fault hst hacc
    exact ⟨_, hstep, by simp [hst], rfl, rfl, by simp⟩

/-! ## Words legal by construction (R56, R114) -/

/-- R56: the four instructions that stand for the illegal words. -/
def isIllegal : Instr → Bool
  | .illegalCmdZero | .illegalFunctionSetDl1 _ | .illegalSetbl _ _ | .illegalOp _ => true
  | _ => false

theorem illegal_cmd : ∀ v : Byte, illegal (reqWord 0b00 v) = isIllegal (decodeCmd v) := by decide

/-- R56: a word is illegal exactly where it decodes to one of the four. -/
theorem illegal_eq_isIllegal_decode (w : ReqWord) : illegal w = isIllegal (decode w) := by
  have hops : ∀ o : BitVec 2, o = 0b00 ∨ o = 0b01 ∨ o = 0b10 ∨ o = 0b11 := by decide
  obtain ⟨op, arg, rfl⟩ : ∃ op arg, w = reqWord op arg := ⟨_, _, (reqWord_opOf_argOf w).symm⟩
  rcases hops op with rfl | rfl | rfl | rfl
  · rw [decode_reqWord_cmd, illegal_cmd]
  · rw [decode_reqWord_data]
    simp [illegal, isIllegal]
  · rw [decode_reqWord_setbl]
    split_ifs with hhigh
    · simp [illegal, isIllegal, hhigh]
    · simpa [illegal, isIllegal] using hhigh
  · rw [decode_reqWord_reserved]
    simp [illegal, isIllegal]

theorem legal_of_decode {w : ReqWord} {i : Instr} (h : decode w = i) (hi : isIllegal i = false) :
    illegal w = false := by
  rw [illegal_eq_isIllegal_decode, h, hi]

/-- The one word of an expansion is legal where it decodes to a legal instruction. -/
theorem legal_of_mem_singleton {w v : ReqWord} {i : Instr} (hw : w ∈ [v]) (h : decode v = i)
    (hi : isIllegal i = false) : illegal w = false :=
  legal_of_decode (List.mem_singleton.mp hw ▸ h) hi

/-- R68, R69: the words of a string of data bytes are legal. -/
theorem legal_of_mem_map_dataWord {codes : List Byte} {w : ReqWord} (hw : w ∈ codes.map dataWord) :
    illegal w = false := by
  obtain ⟨d, -, rfl⟩ := List.mem_map.mp hw
  exact legal_of_decode (decode_reqWord_data d) rfl

/-- Settles O58: each word of an expansion decodes to a legal instruction. -/
theorem pseudoInstructionsAreLegal : Obligations.PseudoInstructionsAreLegal := by
  intro cols rows p w hw
  cases p with
  | createChar idx _ _ _ _ _ _ _ _ =>
    rcases List.mem_cons.mp hw with rfl | hglyph
    · exact legal_of_decode (decode_expandSetCgram idx) rfl
    · exact legal_of_mem_map_dataWord hglyph
  | print codes => exact legal_of_mem_map_dataWord hw
  | clear => exact legal_of_mem_singleton hw decode_clearWord rfl
  | home => exact legal_of_mem_singleton hw decode_homeWord rfl
  | dispctl d c b => exact legal_of_mem_singleton hw (decode_of_eq_encode (expandDispctl_eq_encode d c b) rfl) rfl
  | entry i s => exact legal_of_mem_singleton hw (decode_of_eq_encode (expandEntry_eq_encode i s) rfl) rfl
  | shift c r => exact legal_of_mem_singleton hw (decode_of_eq_encode (expandShift_eq_encode c r) rfl) rfl
  | setDdram a => exact legal_of_mem_singleton hw (decode_expandSetDdram a) rfl
  | setCursor col row => exact legal_of_mem_singleton hw (decode_expandSetDdram _) rfl
  | setCgram idx => exact legal_of_mem_singleton hw (decode_expandSetCgram idx) rfl
  | backlight => exact legal_of_mem_singleton hw (decode_setblWord 1) rfl
  | noBacklight => exact legal_of_mem_singleton hw (decode_setblWord 0) rfl

end Sys2Proof.Machine

/-! PROOFS. The lists' counts, the times the LCD asks for, and reset (spec/70_reset_and_hazards.md R129 to R140). -/

namespace Sys2Proof.Machine

open Sys2Proof.Config

/-! ## The counts of every list (R140) -/

theorem requestList_none {w : ReqWord} (pm : PinMap) (bl : Bit) (h : opOf w = 0b10 ∨ illegal w = true) :
    requestList pm bl w = none := by
  rcases h with hop | hillegal
  · simp [requestList, hop]
  · simp [requestList, hillegal]

/-- R56: every DATA word is legal. -/
theorem legal_of_data {w : ReqWord} (hop : opOf w = 0b01) : illegal w = false := by
  simp [illegal, hop]

/-- R84: the long wait of CLEAR and HOME is one wait and 2000 us more than a send. -/
theorem counts_cmdList (pm : PinMap) (bl : Bit) (v : Byte) :
    (writeCount (cmdList pm bl v), waitCount (cmdList pm bl v), (cmdList pm bl v).length, waitTotal (cmdList pm bl v)) =
      if cls v = .clear ∨ cls v = .home then (6, 5, 11, 2102) else (6, 4, 10, 102) := by
  obtain ⟨-, hwrites, hwaits, hlength, htotal⟩ := nibbleAndSendCounts pm bl v 0
  rw [cmdList_eq, writeCount_append, waitCount_append, waitTotal_append, List.length_append, hwrites, hwaits, hlength,
    htotal]
  split <;> rfl

/-- R97: a SET_CGRAM_ADDR word is legal, and its command byte is of neither class with the long wait. -/
theorem encode_cmdSetCgramAddr_fields : ∀ a : BitVec 6,
    let w := encode (.cmdSetCgramAddr a)
    illegal w = false ∧ opOf w = 0b00 ∧ cls (argOf w) = .setCgramAddr := by
  decide

/-- R67: the list of the SETCGRAM word is one send. -/
theorem requestList_expandSetCgram (pm : PinMap) (bl : Bit) (idx : Nat) :
    requestList pm bl (expandSetCgram idx) = some (send pm bl (argOf (expandSetCgram idx)) 0) := by
  obtain ⟨hlegal, hop, hcls⟩ := encode_cmdSetCgramAddr_fields (BitVec.ofNat 6 (8 * (idx % 8)))
  rw [← decode_expandSetCgram, (encodeDecodeRoundTrip _).2] at hlegal hop hcls
  rw [requestList_cmd pm bl hlegal hop, cmdList_eq, hcls]
  rfl

/-- R85: the list of a DATA word is one send of its byte. -/
theorem requestList_dataWord (pm : PinMap) (bl : Bit) (d : Byte) :
    requestList pm bl (dataWord d) = some (send pm bl d 1) := by
  have hop : opOf (dataWord d) = 0b01 := opOf_reqWord 0b01 d
  rw [requestList_data pm bl (legal_of_data hop) hop, dataWord, argOf_reqWord]

/-- Settles O22: a list is a nibble transfer, the initialization list, a send, or a send and the long wait. -/
theorem listCountsAndMinimumWaits : Obligations.ListCountsAndMinimumWaits := by
  intro pm bl counts
  have hsend (v : Byte) (m : Bit) := (nibbleAndSendCounts pm bl v m).2
  refine ⟨fun n => ?_, fun n f => ?_, fun w hlegal hop => ?_, fun w hop => ?_, fun w => requestList_none pm bl, ?_⟩
  · obtain ⟨⟨hwrites, hwaits, hlength, htotal⟩, -⟩ := nibbleAndSendCounts pm bl n 0
    simp only [counts, hwrites, hwaits, hlength, htotal]
  · obtain ⟨hlength, hwrites, hwaits, htotal, -⟩ := initListCounts pm bl n f
    simp only [counts, hwrites, hwaits, hlength, htotal]
  · rw [requestList_cmd pm bl hlegal hop]
    exact congrArg some (counts_cmdList pm bl (argOf w))
  · rw [requestList_data pm bl (legal_of_data hop) hop]
    simp only [counts, hsend, Option.map_some]
  · intro cols rows idx b0 b1 b2 b3 b4 b5 b6 b7 lists
    simp only [lists, expand, List.map_cons, List.map_nil, requestList_expandSetCgram, requestList_dataWord,
      Option.getD_some, List.flatten_cons, List.flatten_nil, writeCount_append, waitTotal_append, hsend]
    exact ⟨rfl, rfl, rfl⟩

/-! ## The times of the enable pulse (R132, R133) -/

theorem pulsesTimed_wait (pm : PinMap) (t : Nat) (l : List Action) :
    pulsesTimed pm (.wait t :: l) = pulsesTimed pm l := rfl

theorem pulsesTimed_enLow {pm : PinMap} {b : Byte} (l : List Action) (h : b &&& enMask pm = 0) :
    pulsesTimed pm (.write b :: l) = pulsesTimed pm l := by
  simp [pulsesTimed, h]

/-- A pulse that is long enough and settles long enough asks nothing more of the list. -/
theorem pulsesTimed_pulse (pm : PinMap) (b : Byte) {t u : Nat} (l : List Action) (ht : 1 ≤ t) (hu : 50 ≤ u) :
    pulsesTimed pm (.write b :: .wait t :: .write (b &&& ~~~(enMask pm)) :: .wait u :: l) = pulsesTimed pm l := by
  have hdown : b &&& ~~~(enMask pm) &&& enMask pm = 0 := by simp [BitVec.and_assoc]
  have htail : pulsesTimed pm (.wait t :: .write (b &&& ~~~(enMask pm)) :: .wait u :: l) = pulsesTimed pm l := by
    rw [pulsesTimed_wait, pulsesTimed_enLow _ hdown, pulsesTimed_wait]
  rw [pulsesTimed, htail]
  simp [ht, hu]

/-- The times of a list are kept by what comes after it: no pulse reaches past the list's end. -/
theorem pulsesTimed_append {pm : PinMap} {l m : List Action} (hl : pulsesTimed pm l = true)
    (hm : pulsesTimed pm m = true) : pulsesTimed pm (l ++ m) = true := by
  induction l with
  | nil => exact hm
  | cons a l ih =>
    cases a with
    | wait t => exact ih hl
    | write b =>
      simp only [pulsesTimed, Bool.and_eq_true, Bool.or_eq_true] at hl
      obtain ⟨hpulse, htail⟩ := hl
      simp only [List.cons_append, pulsesTimed, Bool.and_eq_true, Bool.or_eq_true]
      refine ⟨hpulse.imp_right fun hshape => ?_, ih htail⟩
      split at hshape
      · exact hshape
      · cases hshape

/-- R73: clearing EN leaves the backlight term as it is. -/
theorem blTerm_clear_en {pm : PinMap} (bl : Bit) (h : pm.wf = true) :
    blTerm pm bl &&& ~~~(enMask pm) = blTerm pm bl := by
  have hline : ∀ en line : Line, (PinMap.mk en line).wf = true → lineMask line &&& ~~~(lineMask en) = lineMask line := by
    intro en line; cases en <;> cases line <;> decide
  unfold blTerm
  split
  · exact hline pm.en pm.bl h
  · exact BitVec.zero_and

/-- R75, R132, R133: a nibble transfer is one pulse of 1 us with 50 us of settling after it. -/
theorem pulsesTimed_writeNibble {pm : PinMap} {n : Byte} (bl : Bit) (h : pm.wf = true) (hlow : n &&& 0x0E = 0) :
    pulsesTimed pm (writeNibble pm bl n) = true := by
  have hn := and_eq_zero_of_low_bits hlow (enMask_in_low_bits pm).1
  have hdown : (n ||| blTerm pm bl) &&& enMask pm = 0 := by
    simp [BitVec.and_or_distrib_right, hn, blTerm_and_enMask bl h]
  have hfall : n &&& ~~~(enMask pm) ||| blTerm pm bl = (n ||| enMask pm ||| blTerm pm bl) &&& ~~~(enMask pm) := by
    simp [BitVec.and_or_distrib_right, blTerm_clear_en bl h]
  rw [writeNibble_eq, pulsesTimed_enLow _ hdown, hfall, pulsesTimed_pulse pm _ [] (by decide) (by decide)]
  rfl

theorem pulsesTimed_send {pm : PinMap} (bl : Bit) (v : Byte) (m : Bit) (h : pm.wf = true) :
    pulsesTimed pm (send pm bl v m) = true :=
  let ⟨hhi, hlo⟩ := nibble_bytes_low_bits v m
  pulsesTimed_append (pulsesTimed_writeNibble bl h hhi) (pulsesTimed_writeNibble bl h hlo)

theorem pulsesTimed_cmdList {pm : PinMap} (bl : Bit) (v : Byte) (h : pm.wf = true) :
    pulsesTimed pm (cmdList pm bl v) = true := by
  rw [cmdList_eq]
  refine pulsesTimed_append (pulsesTimed_send bl v 0 h) ?_
  split <;> rfl

theorem pulsesTimed_initList {pm : PinMap} (bl n f : Bit) (h : pm.wf = true) :
    pulsesTimed pm (initList pm bl n f) = true := by
  have hwait (t : Nat) : pulsesTimed pm [.wait t] = true := rfl
  have hreset := pulsesTimed_writeNibble (n := functionResetNibble) bl h (by decide)
  have hfour := pulsesTimed_writeNibble (n := fourBitNibble) bl h (by decide)
  have hsend (v : Byte) := pulsesTimed_send bl v 0 h
  have hstep1 : pulsesTimed pm (initStep1 pm bl) = true := by
    rw [initStep1_eq, pulsesTimed_enLow _ (blTerm_and_enMask bl h), hwait]
  have hstep2 : pulsesTimed pm (initStep2 pm bl) = true :=
    pulsesTimed_append (pulsesTimed_append (pulsesTimed_append hreset (hwait _)) hreset) (hwait _)
  have hstep3 : pulsesTimed pm (initStep3 pm bl) = true := pulsesTimed_append hreset (hwait _)
  have hstep4 : pulsesTimed pm (initStep4 pm bl) = true := pulsesTimed_append hfour (hwait _)
  have hstep7 : pulsesTimed pm (initStep7 pm bl) = true := pulsesTimed_append (hsend _) (hwait _)
  have hfirst := pulsesTimed_append (pulsesTimed_append (pulsesTimed_append hstep1 hstep2) hstep3) hstep4
  exact pulsesTimed_append (pulsesTimed_append (pulsesTimed_append (pulsesTimed_append hfirst (hsend _)) (hsend _))
    hstep7) (hsend _)

/-- Settles O23: every list is made of nibble transfers, waits and the backlight write, each timed by itself. -/
theorem enablePulsesAreTimed : Obligations.EnablePulsesAreTimed := by
  intro pm bl hwf
  refine ⟨fun n f => pulsesTimed_initList bl n f hwf, fun w l hlist => ?_⟩
  rcases requestList_some hlist with rfl | rfl
  · exact pulsesTimed_cmdList bl _ hwf
  · exact pulsesTimed_send bl _ 1 hwf

/-! ## The long wait (R134) -/

theorem getLast?_send (pm : PinMap) (bl : Bit) (v : Byte) (m : Bit) :
    (send pm bl v m).getLast? = some (.wait 50) := rfl

/-- R84: a command's list ends with the long wait where its class is CLEAR or HOME, and else with the settling. -/
theorem getLast?_cmdList (pm : PinMap) (bl : Bit) (v : Byte) :
    (cmdList pm bl v).getLast? = some (.wait (if cls v = .clear ∨ cls v = .home then 2000 else 50)) := by
  rw [cmdList_eq]
  split
  · exact List.getLast?_concat
  · rw [List.append_nil, getLast?_send]

/-- R82: which of the two kinds a word's list is, OP says. -/
theorem requestList_some_op {pm : PinMap} {bl : Bit} {w : ReqWord} {l : List Action}
    (h : requestList pm bl w = some l) :
    (opOf w = 0b00 ∧ l = cmdList pm bl (argOf w)) ∨ (opOf w = 0b01 ∧ l = send pm bl (argOf w) 1) := by
  unfold requestList at h
  split_ifs at h with _ hcmd hdata
  · exact .inl ⟨hcmd, (Option.some.inj h).symm⟩
  · exact .inr ⟨hdata, (Option.some.inj h).symm⟩

/-- R109: init step 7 is the actions 46 to 56. -/
theorem initList_step7 (pm : PinMap) (bl n f : Bit) :
    ((initList pm bl n f).drop 46).take 11 = initStep7 pm bl := by
  have hbefore : (initStep1 pm bl ++ initStep2 pm bl ++ initStep3 pm bl ++ initStep4 pm bl ++ initStep5 pm bl n f ++
      initStep6 pm bl).length = 46 := rfl
  have hstep7 : (initStep7 pm bl).length = 11 := rfl
  rw [initList, List.append_assoc _ (initStep7 pm bl), List.drop_left' hbefore, List.take_left' hstep7]

/-- Settles O24: a command's class decides its last wait, DATA ends with the settling, and init step 7 is a clear. -/
theorem longWaitExactlyAfterClearAndHome : Obligations.LongWaitExactlyAfterClearAndHome := by
  intro pm bl
  refine ⟨fun w l hlist => ?_, fun n f => ?_⟩
  · rcases requestList_some_op hlist with ⟨hop, rfl⟩ | ⟨hop, rfl⟩
    · rw [getLast?_cmdList]
      split_ifs with hcls
      · simp [hop, hcls]
      · simp [hcls]
    · simp [getLast?_send, hop]
  · rw [initList_step7, initStep7, sendIsTwoNibbleTransfersHighFirst]
    rfl

/-! ## Reset (R129, R130) -/

theorem abandonWrite_none {s : State} (h : busOut s = none) : abandonWrite s = s := by
  rw [abandonWrite, h]

theorem abandonWrite_some {s : State} {addr : I2cAddr} {b : Byte} (h : busOut s = some (addr, b)) :
    abandonWrite s = logEvent (.abandoned addr b) s := by
  rw [abandonWrite, h]

/-- Settles O47: the registers are those of `resetRegs`, and the write on the bus port, if there is one, is abandoned. -/
theorem resetAssertionStopsAtOnce : Obligations.ResetAssertionStopsAtOnce := by
  intro s rest hinputs
  refine ⟨assertReset (takeInput rest s), step_due hinputs, ?_⟩
  rcases hbus : busOut s with _ | ⟨addr, b⟩
  · rw [assertReset, abandonWrite_none (s := takeInput rest s) hbus, List.append_nil]
    rfl
  · rw [assertReset, abandonWrite_some (s := takeInput rest s) hbus]
    rfl

/-- Settles O48: the block holds while `rst` is up, and its bus port is silent. -/
theorem stateIsHeldInReset : Obligations.StateIsHeldInReset := by
  intro s hrst hdue
  refine ⟨?_, by simp [busOut, hrst]⟩
  rw [step_not_due hdue, blockStep, tickInputs_rst, if_pos hrst]

/-- R130: with at least one row, the release of an asserted reset starts initialization. -/
theorem releaseReset_rows {s : State} (hrst : s.rst = true) (hrows : s.cfgRowsPin ≠ 0) :
    releaseReset s = .next (setRst false (resetRegs s.cfgAddrPin (lineBit s.cfgRowsPin) s.cfgFontPin s)) := by
  rw [releaseReset, if_neg (by simp [hrst]), if_neg hrows]

/-- Settles O49: the registers are those of `resetRegs` with the pins in the latch, and in INIT the port is not ready. -/
theorem resetReleaseStartsInitialization : Obligations.ResetReleaseStartsInitialization := by
  intro s rest hinputs hrst hrows n
  exact ⟨_, (step_due hinputs).trans (releaseReset_rows (s := takeInput rest s) hrst hrows), rfl, rfl⟩

end Sys2Proof.Machine
